-- ==== Sys2Proof/Word.lean ====
section
/-!
DEFINITION. The word types of the machine and nothing else: the widths of spec/00_scope.md rule R7 (GRLEN 32, FLEN 64,
byte-addressed memory of 8-bit bytes, R65) and of the operand fields of spec/30_encoding.md rule R121.
-/
namespace Sys2Proof

/-- A byte of memory: 8 bits (R65). -/
abbrev Byte := BitVec 8
/-- A 32-bit word: a general register, a CSR, an address, an instruction word (R7, R120). -/
abbrev Word := BitVec 32
/-- A 64-bit doubleword: a floating-point register (R30), the Stable Counter (R63). -/
abbrev DWord := BitVec 64

/-- A physical address, as wide as PALEN can be: 36 bits, where TLBELO's PPN reaches bit 31 (R54). -/
abbrev PAddr := BitVec 36

/-- The number of a general register: the fields rd, rj, rk (R121). -/
abbrev GReg := BitVec 5
/-- The number of a floating-point register: the fields fd, fj, fk, fa (R121). -/
abbrev FReg := BitVec 5
/-- The number of a condition flag register: the fields cd, cj, ca (R127). -/
abbrev CReg := BitVec 3
/-- The number of a control and status register: the field csr (R121). -/
abbrev CsrNum := BitVec 14

end Sys2Proof
end

