-- ==== Sys2Proof/Config.lean ====
section
/-!
DEFINITION. What an implementation fixes: the parameters of spec/00_scope.md rule R7 that the model gives one value, and the
free values, constants with no body that nothing can evaluate (spec/93_implementation_defined.md, "any value" and
"parameter"; spec/46_fp_arith.md rule R334). A drawn value is one of these applied to the counter `draws` of the state.
-/
namespace Sys2Proof

/-- The floating-point operations that can deliver a NaN from NaN operands: the first argument of `FP.nanResult` (R334). -/
inductive FpOp where
  | add | sub | mul | div | fma | fnmadd | fnmsub | maxNum | minNum | maxNumMag | minNumMag | sqrt | rsqrt | convert
  deriving DecidableEq, Repr

namespace Config

/-- RESET_PC (R7, R70). -/
def resetPc : Word := 0x1C000000#32

/-- The value DIV and MOD write for a zero divisor (R217, U16): free. -/
opaque freeDiv : Nat → Word
/-- Bits 63:32 of a floating-point register after a 32-bit write, `FP.highHalf` (R31, U7): free. -/
opaque freeHighHalf : Nat → Word
/-- LLbit after an SC.W (R293(d), U23): free. -/
opaque freeScLLbit : Nat → Bool
/-- The TLB entry TLBFILL replaces, taken modulo the number of entries (R483, U11): free. -/
opaque freeFillIndex : Nat → Nat
/-- Which of the words R104 allows a fetch returns: free. -/
opaque freeFetchPick : Nat → Nat
/-- Which of +0 and -0 FMAX, FMIN, FMAXA, FMINA deliver (spec/46_fp_arith.md section 4): free; true picks the first operand. -/
opaque freeZeroPick : Nat → Bool
/-- What MOVFCSR2GR reads from an FCSR that does not exist (R430, U8): free. -/
opaque freeFcsrRead : Nat → Word
/-- What MOVGR2FCSR to an FCSR that does not exist leaves in the writable fields of fcsr0 (R430, U8): free. -/
opaque freeFcsrWrite : Nat → Word

/-- `FP.defaultNaN32` (R334); its quietness is added where it is used. -/
opaque defaultNaN32 : Word
/-- `FP.defaultNaN64` (R334). -/
opaque defaultNaN64 : DWord
/-- `FP.nanResult` for a binary32 result, from the operation and its operands, zero-extended (R333, R334). -/
opaque nanResult32 : FpOp → List DWord → Word
/-- `FP.nanResult` for a binary64 result (R333, R334). -/
opaque nanResult64 : FpOp → List DWord → DWord
/-- `FP.tininess`: true is after rounding, false before (R334). -/
opaque tininessAfter : Bool
/-- `FP.fmaInvalidWithQNaNAddend` (R334). -/
opaque fmaInvalidWithQNaNAddend : Bool
/-- `FP.rsqrtDouble` (R334, R372). -/
opaque rsqrtDouble : Bool
/-- `FP.ftintInvalid` for a binary32 operand (R334, R397). -/
opaque ftintInvalid32 : Word → Word
/-- `FP.ftintInvalid` for a binary64 operand (R334, R397). -/
opaque ftintInvalid64 : DWord → Word
/-- `FP.underflowTrapExact` (R334, R335). -/
opaque underflowTrapExact : Bool

end Config
end Sys2Proof
end

