-- ==== Sys2Proof/Syntax.lean ====
section
/-!
DEFINITION. The instructions of LA32R: one constructor per row of spec/opcode_table.json, in the table's order, with the
operands of the row at their encoded widths (spec/30_encoding.md rules R121, R123, R124) in the order of the assembler
text (R132, R133).
-/
namespace Sys2Proof

/-- An instruction: the rows of spec/30_encoding.md rule R130. -/
inductive Instr where
  /-- ADD.W (R201). -/
  | addW (rd : GReg) (rj : GReg) (rk : GReg)
  /-- SUB.W (R202). -/
  | subW (rd : GReg) (rj : GReg) (rk : GReg)
  /-- ADDI.W (R203). -/
  | addiW (rd : GReg) (rj : GReg) (si12 : BitVec 12)
  /-- LU12I.W (R204). -/
  | lu12iW (rd : GReg) (si20 : BitVec 20)
  /-- SLT (R205). -/
  | slt (rd : GReg) (rj : GReg) (rk : GReg)
  /-- SLTU (R206). -/
  | sltu (rd : GReg) (rj : GReg) (rk : GReg)
  /-- SLTI (R207). -/
  | slti (rd : GReg) (rj : GReg) (si12 : BitVec 12)
  /-- SLTUI (R208). -/
  | sltui (rd : GReg) (rj : GReg) (si12 : BitVec 12)
  /-- PCADDU12I (R209). -/
  | pcaddu12i (rd : GReg) (si20 : BitVec 20)
  /-- MUL.W (R210). -/
  | mulW (rd : GReg) (rj : GReg) (rk : GReg)
  /-- MULH.W (R211). -/
  | mulhW (rd : GReg) (rj : GReg) (rk : GReg)
  /-- MULH.WU (R212). -/
  | mulhWu (rd : GReg) (rj : GReg) (rk : GReg)
  /-- DIV.W (R213). -/
  | divW (rd : GReg) (rj : GReg) (rk : GReg)
  /-- DIV.WU (R214). -/
  | divWu (rd : GReg) (rj : GReg) (rk : GReg)
  /-- MOD.W (R215). -/
  | modW (rd : GReg) (rj : GReg) (rk : GReg)
  /-- MOD.WU (R216). -/
  | modWu (rd : GReg) (rj : GReg) (rk : GReg)
  /-- AND (R231). -/
  | and (rd : GReg) (rj : GReg) (rk : GReg)
  /-- OR (R232). -/
  | or (rd : GReg) (rj : GReg) (rk : GReg)
  /-- NOR (R233). -/
  | nor (rd : GReg) (rj : GReg) (rk : GReg)
  /-- XOR (R234). -/
  | xor (rd : GReg) (rj : GReg) (rk : GReg)
  /-- ANDI (R235). -/
  | andi (rd : GReg) (rj : GReg) (ui12 : BitVec 12)
  /-- ORI (R236). -/
  | ori (rd : GReg) (rj : GReg) (ui12 : BitVec 12)
  /-- XORI (R237). -/
  | xori (rd : GReg) (rj : GReg) (ui12 : BitVec 12)
  /-- SLL.W (R238). -/
  | sllW (rd : GReg) (rj : GReg) (rk : GReg)
  /-- SRL.W (R239). -/
  | srlW (rd : GReg) (rj : GReg) (rk : GReg)
  /-- SRA.W (R240). -/
  | sraW (rd : GReg) (rj : GReg) (rk : GReg)
  /-- SLLI.W (R241). -/
  | slliW (rd : GReg) (rj : GReg) (ui5 : BitVec 5)
  /-- SRLI.W (R242). -/
  | srliW (rd : GReg) (rj : GReg) (ui5 : BitVec 5)
  /-- SRAI.W (R243). -/
  | sraiW (rd : GReg) (rj : GReg) (ui5 : BitVec 5)
  /-- BEQ (R251). -/
  | beq (rj : GReg) (rd : GReg) (offs16 : BitVec 16)
  /-- BNE (R252). -/
  | bne (rj : GReg) (rd : GReg) (offs16 : BitVec 16)
  /-- BLT (R253). -/
  | blt (rj : GReg) (rd : GReg) (offs16 : BitVec 16)
  /-- BGE (R254). -/
  | bge (rj : GReg) (rd : GReg) (offs16 : BitVec 16)
  /-- BLTU (R255). -/
  | bltu (rj : GReg) (rd : GReg) (offs16 : BitVec 16)
  /-- BGEU (R256). -/
  | bgeu (rj : GReg) (rd : GReg) (offs16 : BitVec 16)
  /-- B (R257). -/
  | b (offs26 : BitVec 26)
  /-- BL (R258). -/
  | bl (offs26 : BitVec 26)
  /-- JIRL (R259). -/
  | jirl (rd : GReg) (rj : GReg) (offs16 : BitVec 16)
  /-- LD.B (R271). -/
  | ldB (rd : GReg) (rj : GReg) (si12 : BitVec 12)
  /-- LD.H (R272). -/
  | ldH (rd : GReg) (rj : GReg) (si12 : BitVec 12)
  /-- LD.W (R273). -/
  | ldW (rd : GReg) (rj : GReg) (si12 : BitVec 12)
  /-- LD.BU (R274). -/
  | ldBu (rd : GReg) (rj : GReg) (si12 : BitVec 12)
  /-- LD.HU (R275). -/
  | ldHu (rd : GReg) (rj : GReg) (si12 : BitVec 12)
  /-- ST.B (R276). -/
  | stB (rd : GReg) (rj : GReg) (si12 : BitVec 12)
  /-- ST.H (R277). -/
  | stH (rd : GReg) (rj : GReg) (si12 : BitVec 12)
  /-- ST.W (R278). -/
  | stW (rd : GReg) (rj : GReg) (si12 : BitVec 12)
  /-- PRELD (R279). -/
  | preld (hint : BitVec 5) (rj : GReg) (si12 : BitVec 12)
  /-- LL.W (R291). -/
  | llW (rd : GReg) (rj : GReg) (si14 : BitVec 14)
  /-- SC.W (R292). -/
  | scW (rd : GReg) (rj : GReg) (si14 : BitVec 14)
  /-- DBAR (R296). -/
  | dbar (hint : BitVec 15)
  /-- IBAR (R297). -/
  | ibar (hint : BitVec 15)
  /-- SYSCALL (R310). -/
  | syscall (code : BitVec 15)
  /-- BREAK (R311). -/
  | brk (code : BitVec 15)
  /-- RDCNTVL.W (R312). -/
  | rdcntvlW (rd : GReg)
  /-- RDCNTVH.W (R313). -/
  | rdcntvhW (rd : GReg)
  /-- RDCNTID (R314). -/
  | rdcntid (rj : GReg)
  /-- FADD.S (R340). -/
  | faddS (fd : FReg) (fj : FReg) (fk : FReg)
  /-- FADD.D (R341). -/
  | faddD (fd : FReg) (fj : FReg) (fk : FReg)
  /-- FSUB.S (R342). -/
  | fsubS (fd : FReg) (fj : FReg) (fk : FReg)
  /-- FSUB.D (R343). -/
  | fsubD (fd : FReg) (fj : FReg) (fk : FReg)
  /-- FMUL.S (R344). -/
  | fmulS (fd : FReg) (fj : FReg) (fk : FReg)
  /-- FMUL.D (R345). -/
  | fmulD (fd : FReg) (fj : FReg) (fk : FReg)
  /-- FDIV.S (R346). -/
  | fdivS (fd : FReg) (fj : FReg) (fk : FReg)
  /-- FDIV.D (R347). -/
  | fdivD (fd : FReg) (fj : FReg) (fk : FReg)
  /-- FMADD.S (R348). -/
  | fmaddS (fd : FReg) (fj : FReg) (fk : FReg) (fa : FReg)
  /-- FMADD.D (R349). -/
  | fmaddD (fd : FReg) (fj : FReg) (fk : FReg) (fa : FReg)
  /-- FMSUB.S (R350). -/
  | fmsubS (fd : FReg) (fj : FReg) (fk : FReg) (fa : FReg)
  /-- FMSUB.D (R351). -/
  | fmsubD (fd : FReg) (fj : FReg) (fk : FReg) (fa : FReg)
  /-- FNMADD.S (R352). -/
  | fnmaddS (fd : FReg) (fj : FReg) (fk : FReg) (fa : FReg)
  /-- FNMADD.D (R353). -/
  | fnmaddD (fd : FReg) (fj : FReg) (fk : FReg) (fa : FReg)
  /-- FNMSUB.S (R354). -/
  | fnmsubS (fd : FReg) (fj : FReg) (fk : FReg) (fa : FReg)
  /-- FNMSUB.D (R355). -/
  | fnmsubD (fd : FReg) (fj : FReg) (fk : FReg) (fa : FReg)
  /-- FMAX.S (R356). -/
  | fmaxS (fd : FReg) (fj : FReg) (fk : FReg)
  /-- FMAX.D (R357). -/
  | fmaxD (fd : FReg) (fj : FReg) (fk : FReg)
  /-- FMIN.S (R358). -/
  | fminS (fd : FReg) (fj : FReg) (fk : FReg)
  /-- FMIN.D (R359). -/
  | fminD (fd : FReg) (fj : FReg) (fk : FReg)
  /-- FMAXA.S (R360). -/
  | fmaxaS (fd : FReg) (fj : FReg) (fk : FReg)
  /-- FMAXA.D (R361). -/
  | fmaxaD (fd : FReg) (fj : FReg) (fk : FReg)
  /-- FMINA.S (R362). -/
  | fminaS (fd : FReg) (fj : FReg) (fk : FReg)
  /-- FMINA.D (R363). -/
  | fminaD (fd : FReg) (fj : FReg) (fk : FReg)
  /-- FABS.S (R364). -/
  | fabsS (fd : FReg) (fj : FReg)
  /-- FABS.D (R365). -/
  | fabsD (fd : FReg) (fj : FReg)
  /-- FNEG.S (R366). -/
  | fnegS (fd : FReg) (fj : FReg)
  /-- FNEG.D (R367). -/
  | fnegD (fd : FReg) (fj : FReg)
  /-- FSQRT.S (R368). -/
  | fsqrtS (fd : FReg) (fj : FReg)
  /-- FSQRT.D (R369). -/
  | fsqrtD (fd : FReg) (fj : FReg)
  /-- FRECIP.S (R370). -/
  | frecipS (fd : FReg) (fj : FReg)
  /-- FRECIP.D (R371). -/
  | frecipD (fd : FReg) (fj : FReg)
  /-- FRSQRT.S (R372). -/
  | frsqrtS (fd : FReg) (fj : FReg)
  /-- FRSQRT.D (R373). -/
  | frsqrtD (fd : FReg) (fj : FReg)
  /-- FCOPYSIGN.S (R374). -/
  | fcopysignS (fd : FReg) (fj : FReg) (fk : FReg)
  /-- FCOPYSIGN.D (R375). -/
  | fcopysignD (fd : FReg) (fj : FReg) (fk : FReg)
  /-- FCLASS.S (R376). -/
  | fclassS (fd : FReg) (fj : FReg)
  /-- FCLASS.D (R377). -/
  | fclassD (fd : FReg) (fj : FReg)
  /-- FCMP.CAF.S (R381). -/
  | fcmpCafS (cd : CReg) (fj : FReg) (fk : FReg)
  /-- FCMP.SAF.S (R381). -/
  | fcmpSafS (cd : CReg) (fj : FReg) (fk : FReg)
  /-- FCMP.CLT.S (R381). -/
  | fcmpCltS (cd : CReg) (fj : FReg) (fk : FReg)
  /-- FCMP.SLT.S (R381). -/
  | fcmpSltS (cd : CReg) (fj : FReg) (fk : FReg)
  /-- FCMP.CEQ.S (R381). -/
  | fcmpCeqS (cd : CReg) (fj : FReg) (fk : FReg)
  /-- FCMP.SEQ.S (R381). -/
  | fcmpSeqS (cd : CReg) (fj : FReg) (fk : FReg)
  /-- FCMP.CLE.S (R381). -/
  | fcmpCleS (cd : CReg) (fj : FReg) (fk : FReg)
  /-- FCMP.SLE.S (R381). -/
  | fcmpSleS (cd : CReg) (fj : FReg) (fk : FReg)
  /-- FCMP.CUN.S (R381). -/
  | fcmpCunS (cd : CReg) (fj : FReg) (fk : FReg)
  /-- FCMP.SUN.S (R381). -/
  | fcmpSunS (cd : CReg) (fj : FReg) (fk : FReg)
  /-- FCMP.CULT.S (R381). -/
  | fcmpCultS (cd : CReg) (fj : FReg) (fk : FReg)
  /-- FCMP.SULT.S (R381). -/
  | fcmpSultS (cd : CReg) (fj : FReg) (fk : FReg)
  /-- FCMP.CUEQ.S (R381). -/
  | fcmpCueqS (cd : CReg) (fj : FReg) (fk : FReg)
  /-- FCMP.SUEQ.S (R381). -/
  | fcmpSueqS (cd : CReg) (fj : FReg) (fk : FReg)
  /-- FCMP.CULE.S (R381). -/
  | fcmpCuleS (cd : CReg) (fj : FReg) (fk : FReg)
  /-- FCMP.SULE.S (R381). -/
  | fcmpSuleS (cd : CReg) (fj : FReg) (fk : FReg)
  /-- FCMP.CNE.S (R381). -/
  | fcmpCneS (cd : CReg) (fj : FReg) (fk : FReg)
  /-- FCMP.SNE.S (R381). -/
  | fcmpSneS (cd : CReg) (fj : FReg) (fk : FReg)
  /-- FCMP.COR.S (R381). -/
  | fcmpCorS (cd : CReg) (fj : FReg) (fk : FReg)
  /-- FCMP.SOR.S (R381). -/
  | fcmpSorS (cd : CReg) (fj : FReg) (fk : FReg)
  /-- FCMP.CUNE.S (R381). -/
  | fcmpCuneS (cd : CReg) (fj : FReg) (fk : FReg)
  /-- FCMP.SUNE.S (R381). -/
  | fcmpSuneS (cd : CReg) (fj : FReg) (fk : FReg)
  /-- FCMP.CAF.D (R382). -/
  | fcmpCafD (cd : CReg) (fj : FReg) (fk : FReg)
  /-- FCMP.SAF.D (R382). -/
  | fcmpSafD (cd : CReg) (fj : FReg) (fk : FReg)
  /-- FCMP.CLT.D (R382). -/
  | fcmpCltD (cd : CReg) (fj : FReg) (fk : FReg)
  /-- FCMP.SLT.D (R382). -/
  | fcmpSltD (cd : CReg) (fj : FReg) (fk : FReg)
  /-- FCMP.CEQ.D (R382). -/
  | fcmpCeqD (cd : CReg) (fj : FReg) (fk : FReg)
  /-- FCMP.SEQ.D (R382). -/
  | fcmpSeqD (cd : CReg) (fj : FReg) (fk : FReg)
  /-- FCMP.CLE.D (R382). -/
  | fcmpCleD (cd : CReg) (fj : FReg) (fk : FReg)
  /-- FCMP.SLE.D (R382). -/
  | fcmpSleD (cd : CReg) (fj : FReg) (fk : FReg)
  /-- FCMP.CUN.D (R382). -/
  | fcmpCunD (cd : CReg) (fj : FReg) (fk : FReg)
  /-- FCMP.SUN.D (R382). -/
  | fcmpSunD (cd : CReg) (fj : FReg) (fk : FReg)
  /-- FCMP.CULT.D (R382). -/
  | fcmpCultD (cd : CReg) (fj : FReg) (fk : FReg)
  /-- FCMP.SULT.D (R382). -/
  | fcmpSultD (cd : CReg) (fj : FReg) (fk : FReg)
  /-- FCMP.CUEQ.D (R382). -/
  | fcmpCueqD (cd : CReg) (fj : FReg) (fk : FReg)
  /-- FCMP.SUEQ.D (R382). -/
  | fcmpSueqD (cd : CReg) (fj : FReg) (fk : FReg)
  /-- FCMP.CULE.D (R382). -/
  | fcmpCuleD (cd : CReg) (fj : FReg) (fk : FReg)
  /-- FCMP.SULE.D (R382). -/
  | fcmpSuleD (cd : CReg) (fj : FReg) (fk : FReg)
  /-- FCMP.CNE.D (R382). -/
  | fcmpCneD (cd : CReg) (fj : FReg) (fk : FReg)
  /-- FCMP.SNE.D (R382). -/
  | fcmpSneD (cd : CReg) (fj : FReg) (fk : FReg)
  /-- FCMP.COR.D (R382). -/
  | fcmpCorD (cd : CReg) (fj : FReg) (fk : FReg)
  /-- FCMP.SOR.D (R382). -/
  | fcmpSorD (cd : CReg) (fj : FReg) (fk : FReg)
  /-- FCMP.CUNE.D (R382). -/
  | fcmpCuneD (cd : CReg) (fj : FReg) (fk : FReg)
  /-- FCMP.SUNE.D (R382). -/
  | fcmpSuneD (cd : CReg) (fj : FReg) (fk : FReg)
  /-- FCVT.S.D (R383). -/
  | fcvtSD (fd : FReg) (fj : FReg)
  /-- FCVT.D.S (R384). -/
  | fcvtDS (fd : FReg) (fj : FReg)
  /-- FFINT.S.W (R385). -/
  | ffintSW (fd : FReg) (fj : FReg)
  /-- FFINT.D.W (R386). -/
  | ffintDW (fd : FReg) (fj : FReg)
  /-- FTINT.W.S (R387). -/
  | ftintWS (fd : FReg) (fj : FReg)
  /-- FTINT.W.D (R388). -/
  | ftintWD (fd : FReg) (fj : FReg)
  /-- FTINTRM.W.S (R389). -/
  | ftintrmWS (fd : FReg) (fj : FReg)
  /-- FTINTRM.W.D (R390). -/
  | ftintrmWD (fd : FReg) (fj : FReg)
  /-- FTINTRP.W.S (R391). -/
  | ftintrpWS (fd : FReg) (fj : FReg)
  /-- FTINTRP.W.D (R392). -/
  | ftintrpWD (fd : FReg) (fj : FReg)
  /-- FTINTRZ.W.S (R393). -/
  | ftintrzWS (fd : FReg) (fj : FReg)
  /-- FTINTRZ.W.D (R394). -/
  | ftintrzWD (fd : FReg) (fj : FReg)
  /-- FTINTRNE.W.S (R395). -/
  | ftintrneWS (fd : FReg) (fj : FReg)
  /-- FTINTRNE.W.D (R396). -/
  | ftintrneWD (fd : FReg) (fj : FReg)
  /-- FMOV.S (R420). -/
  | fmovS (fd : FReg) (fj : FReg)
  /-- FMOV.D (R421). -/
  | fmovD (fd : FReg) (fj : FReg)
  /-- FSEL (R422). -/
  | fsel (fd : FReg) (fj : FReg) (fk : FReg) (ca : CReg)
  /-- MOVGR2FR.W (R423). -/
  | movgr2frW (fd : FReg) (rj : GReg)
  /-- MOVGR2FRH.W (R424). -/
  | movgr2frhW (fd : FReg) (rj : GReg)
  /-- MOVFR2GR.S (R425). -/
  | movfr2grS (rd : GReg) (fj : FReg)
  /-- MOVFRH2GR.S (R426). -/
  | movfrh2grS (rd : GReg) (fj : FReg)
  /-- MOVGR2FCSR (R427). -/
  | movgr2fcsr (fcsr : BitVec 5) (rj : GReg)
  /-- MOVFCSR2GR (R428). -/
  | movfcsr2gr (rd : GReg) (fcsr : BitVec 5)
  /-- MOVFR2CF (R431). -/
  | movfr2cf (cd : CReg) (fj : FReg)
  /-- MOVCF2FR (R432). -/
  | movcf2fr (fd : FReg) (cj : CReg)
  /-- MOVGR2CF (R433). -/
  | movgr2cf (cd : CReg) (rj : GReg)
  /-- MOVCF2GR (R434). -/
  | movcf2gr (rd : GReg) (cj : CReg)
  /-- BCEQZ (R435). -/
  | bceqz (cj : CReg) (offs21 : BitVec 21)
  /-- BCNEZ (R436). -/
  | bcnez (cj : CReg) (offs21 : BitVec 21)
  /-- FLD.S (R437). -/
  | fldS (fd : FReg) (rj : GReg) (si12 : BitVec 12)
  /-- FLD.D (R438). -/
  | fldD (fd : FReg) (rj : GReg) (si12 : BitVec 12)
  /-- FST.S (R439). -/
  | fstS (fd : FReg) (rj : GReg) (si12 : BitVec 12)
  /-- FST.D (R440). -/
  | fstD (fd : FReg) (rj : GReg) (si12 : BitVec 12)
  /-- CSRRD (R461). -/
  | csrrd (rd : GReg) (csr : CsrNum)
  /-- CSRWR (R462). -/
  | csrwr (rd : GReg) (csr : CsrNum)
  /-- CSRXCHG (R463). -/
  | csrxchg (rd : GReg) (rj : GReg) (csr : CsrNum)
  /-- CACOP (R470). -/
  | cacop (code : BitVec 5) (rj : GReg) (si12 : BitVec 12)
  /-- TLBSRCH (R480). -/
  | tlbsrch
  /-- TLBRD (R481). -/
  | tlbrd
  /-- TLBWR (R482). -/
  | tlbwr
  /-- TLBFILL (R483). -/
  | tlbfill
  /-- INVTLB (R485). -/
  | invtlb (op : BitVec 5) (rj : GReg) (rk : GReg)
  /-- ERTN (R490). -/
  | ertn
  /-- IDLE (R491). -/
  | idle (level : BitVec 15)
  deriving DecidableEq, Repr

end Sys2Proof
end

