-- ==== Sys2Proof/WellFormed.lean ====
section
/-!
DEFINITION. Which instruction terms an instruction word stands for. Every operand already has its encoded width; what is
left are the two restrictions of spec/30_encoding.md rule R125: CSRXCHG cannot name r0 or r1 as its mask register, and the
word `rdcntid $r0` reads as `rdcntvl.w $r0` (both have no effect on it, R314).
-/
namespace Sys2Proof

/-- The checks on one instruction (R125). -/
def Instr.wellFormed : Instr → Bool
  | .addW _ _ _ => true
  | .subW _ _ _ => true
  | .addiW _ _ _ => true
  | .lu12iW _ _ => true
  | .slt _ _ _ => true
  | .sltu _ _ _ => true
  | .slti _ _ _ => true
  | .sltui _ _ _ => true
  | .pcaddu12i _ _ => true
  | .mulW _ _ _ => true
  | .mulhW _ _ _ => true
  | .mulhWu _ _ _ => true
  | .divW _ _ _ => true
  | .divWu _ _ _ => true
  | .modW _ _ _ => true
  | .modWu _ _ _ => true
  | .and _ _ _ => true
  | .or _ _ _ => true
  | .nor _ _ _ => true
  | .xor _ _ _ => true
  | .andi _ _ _ => true
  | .ori _ _ _ => true
  | .xori _ _ _ => true
  | .sllW _ _ _ => true
  | .srlW _ _ _ => true
  | .sraW _ _ _ => true
  | .slliW _ _ _ => true
  | .srliW _ _ _ => true
  | .sraiW _ _ _ => true
  | .beq _ _ _ => true
  | .bne _ _ _ => true
  | .blt _ _ _ => true
  | .bge _ _ _ => true
  | .bltu _ _ _ => true
  | .bgeu _ _ _ => true
  | .b _ => true
  | .bl _ => true
  | .jirl _ _ _ => true
  | .ldB _ _ _ => true
  | .ldH _ _ _ => true
  | .ldW _ _ _ => true
  | .ldBu _ _ _ => true
  | .ldHu _ _ _ => true
  | .stB _ _ _ => true
  | .stH _ _ _ => true
  | .stW _ _ _ => true
  | .preld _ _ _ => true
  | .llW _ _ _ => true
  | .scW _ _ _ => true
  | .dbar _ => true
  | .ibar _ => true
  | .syscall _ => true
  | .brk _ => true
  | .rdcntvlW _ => true
  | .rdcntvhW _ => true
  | .rdcntid rj => rj != 0#5
  | .faddS _ _ _ => true
  | .faddD _ _ _ => true
  | .fsubS _ _ _ => true
  | .fsubD _ _ _ => true
  | .fmulS _ _ _ => true
  | .fmulD _ _ _ => true
  | .fdivS _ _ _ => true
  | .fdivD _ _ _ => true
  | .fmaddS _ _ _ _ => true
  | .fmaddD _ _ _ _ => true
  | .fmsubS _ _ _ _ => true
  | .fmsubD _ _ _ _ => true
  | .fnmaddS _ _ _ _ => true
  | .fnmaddD _ _ _ _ => true
  | .fnmsubS _ _ _ _ => true
  | .fnmsubD _ _ _ _ => true
  | .fmaxS _ _ _ => true
  | .fmaxD _ _ _ => true
  | .fminS _ _ _ => true
  | .fminD _ _ _ => true
  | .fmaxaS _ _ _ => true
  | .fmaxaD _ _ _ => true
  | .fminaS _ _ _ => true
  | .fminaD _ _ _ => true
  | .fabsS _ _ => true
  | .fabsD _ _ => true
  | .fnegS _ _ => true
  | .fnegD _ _ => true
  | .fsqrtS _ _ => true
  | .fsqrtD _ _ => true
  | .frecipS _ _ => true
  | .frecipD _ _ => true
  | .frsqrtS _ _ => true
  | .frsqrtD _ _ => true
  | .fcopysignS _ _ _ => true
  | .fcopysignD _ _ _ => true
  | .fclassS _ _ => true
  | .fclassD _ _ => true
  | .fcmpCafS _ _ _ => true
  | .fcmpSafS _ _ _ => true
  | .fcmpCltS _ _ _ => true
  | .fcmpSltS _ _ _ => true
  | .fcmpCeqS _ _ _ => true
  | .fcmpSeqS _ _ _ => true
  | .fcmpCleS _ _ _ => true
  | .fcmpSleS _ _ _ => true
  | .fcmpCunS _ _ _ => true
  | .fcmpSunS _ _ _ => true
  | .fcmpCultS _ _ _ => true
  | .fcmpSultS _ _ _ => true
  | .fcmpCueqS _ _ _ => true
  | .fcmpSueqS _ _ _ => true
  | .fcmpCuleS _ _ _ => true
  | .fcmpSuleS _ _ _ => true
  | .fcmpCneS _ _ _ => true
  | .fcmpSneS _ _ _ => true
  | .fcmpCorS _ _ _ => true
  | .fcmpSorS _ _ _ => true
  | .fcmpCuneS _ _ _ => true
  | .fcmpSuneS _ _ _ => true
  | .fcmpCafD _ _ _ => true
  | .fcmpSafD _ _ _ => true
  | .fcmpCltD _ _ _ => true
  | .fcmpSltD _ _ _ => true
  | .fcmpCeqD _ _ _ => true
  | .fcmpSeqD _ _ _ => true
  | .fcmpCleD _ _ _ => true
  | .fcmpSleD _ _ _ => true
  | .fcmpCunD _ _ _ => true
  | .fcmpSunD _ _ _ => true
  | .fcmpCultD _ _ _ => true
  | .fcmpSultD _ _ _ => true
  | .fcmpCueqD _ _ _ => true
  | .fcmpSueqD _ _ _ => true
  | .fcmpCuleD _ _ _ => true
  | .fcmpSuleD _ _ _ => true
  | .fcmpCneD _ _ _ => true
  | .fcmpSneD _ _ _ => true
  | .fcmpCorD _ _ _ => true
  | .fcmpSorD _ _ _ => true
  | .fcmpCuneD _ _ _ => true
  | .fcmpSuneD _ _ _ => true
  | .fcvtSD _ _ => true
  | .fcvtDS _ _ => true
  | .ffintSW _ _ => true
  | .ffintDW _ _ => true
  | .ftintWS _ _ => true
  | .ftintWD _ _ => true
  | .ftintrmWS _ _ => true
  | .ftintrmWD _ _ => true
  | .ftintrpWS _ _ => true
  | .ftintrpWD _ _ => true
  | .ftintrzWS _ _ => true
  | .ftintrzWD _ _ => true
  | .ftintrneWS _ _ => true
  | .ftintrneWD _ _ => true
  | .fmovS _ _ => true
  | .fmovD _ _ => true
  | .fsel _ _ _ _ => true
  | .movgr2frW _ _ => true
  | .movgr2frhW _ _ => true
  | .movfr2grS _ _ => true
  | .movfrh2grS _ _ => true
  | .movgr2fcsr _ _ => true
  | .movfcsr2gr _ _ => true
  | .movfr2cf _ _ => true
  | .movcf2fr _ _ => true
  | .movgr2cf _ _ => true
  | .movcf2gr _ _ => true
  | .bceqz _ _ => true
  | .bcnez _ _ => true
  | .fldS _ _ _ => true
  | .fldD _ _ _ => true
  | .fstS _ _ _ => true
  | .fstD _ _ _ => true
  | .csrrd _ _ => true
  | .csrwr _ _ => true
  | .csrxchg _ rj _ => rj != 0#5 && rj != 1#5
  | .cacop _ _ _ => true
  | .tlbsrch => true
  | .tlbrd => true
  | .tlbwr => true
  | .tlbfill => true
  | .invtlb _ _ _ => true
  | .ertn => true
  | .idle _ => true

/-- An instruction is well-formed when every check passes. -/
abbrev Instr.WellFormed (i : Instr) : Prop := i.wellFormed = true

end Sys2Proof
end

