-- ==== Sys2Proof/Decode.lean ====
section
/-!
DEFINITION. The decoder, total on every word and on any four bytes, and after it the encoder, both written from the fields
and tables of spec/30_encoding.md (rules R120 to R130; the repaired rows of R131 as the opcode table has them, log 20).
-/
namespace Sys2Proof

/-- What a word is: an instruction; no instruction (it raises INE, R128); or one of the RDCNT words that rule R129(g) leaves
unspecified (refused, U20). -/
inductive Decoded where
  | instr (i : Instr)
  | reserved
  | unspecified
  deriving DecidableEq, Repr

namespace Decode

/-- Bits 4:0: rd, fd, the hint of PRELD, the code of CACOP, the op of INVTLB, the fcsr of MOVGR2FCSR (R121). -/
def rd (w : Word) : BitVec 5 := w.extractLsb' 0 5
/-- Bits 9:5: rj, fj, the fcsr of MOVFCSR2GR (R121). -/
def rj (w : Word) : BitVec 5 := w.extractLsb' 5 5
/-- Bits 14:10: rk, fk, ui5 (R121). -/
def rk (w : Word) : BitVec 5 := w.extractLsb' 10 5
/-- Bits 19:15: fa (R121). -/
def fa (w : Word) : BitVec 5 := w.extractLsb' 15 5
/-- Bits 2:0: cd (R127). -/
def cd (w : Word) : BitVec 3 := w.extractLsb' 0 3
/-- Bits 7:5: cj (R127). -/
def cj (w : Word) : BitVec 3 := w.extractLsb' 5 3
/-- Bits 17:15: ca (R127). -/
def ca (w : Word) : BitVec 3 := w.extractLsb' 15 3
/-- Bits 21:10: si12, ui12 (R121). -/
def imm12 (w : Word) : BitVec 12 := w.extractLsb' 10 12
/-- Bits 23:10: si14, csr (R121). -/
def imm14 (w : Word) : BitVec 14 := w.extractLsb' 10 14
/-- Bits 14:0: the hint of DBAR and IBAR, the code of SYSCALL and BREAK, the level of IDLE (R121). -/
def imm15 (w : Word) : BitVec 15 := w.extractLsb' 0 15
/-- Bits 24:5: si20 (R121). -/
def imm20 (w : Word) : BitVec 20 := w.extractLsb' 5 20
/-- Bits 25:10: offs16 (R121). -/
def offs16 (w : Word) : BitVec 16 := w.extractLsb' 10 16
/-- The split offs21 of BCEQZ and BCNEZ: bits 4:0 above bits 25:10 (R124). -/
def offs21 (w : Word) : BitVec 21 := w.extractLsb' 0 5 ++ w.extractLsb' 10 16
/-- The split offs26 of B and BL: bits 9:0 above bits 25:10 (R124). -/
def offs26 (w : Word) : BitVec 26 := w.extractLsb' 0 10 ++ w.extractLsb' 10 16

/-- One entry of a decoding table: the value of the opcode bits, and what the word then is. -/
abbrev Entry := Nat × (Word → Decoded)

/-- The 22 conditions of FCMP.cond.S, by bits 19:15 (R380). -/
def condsS : List (Nat × (CReg → FReg → FReg → Instr)) := [
  (0x0, .fcmpCafS),
  (0x1, .fcmpSafS),
  (0x2, .fcmpCltS),
  (0x3, .fcmpSltS),
  (0x4, .fcmpCeqS),
  (0x5, .fcmpSeqS),
  (0x6, .fcmpCleS),
  (0x7, .fcmpSleS),
  (0x8, .fcmpCunS),
  (0x9, .fcmpSunS),
  (0xa, .fcmpCultS),
  (0xb, .fcmpSultS),
  (0xc, .fcmpCueqS),
  (0xd, .fcmpSueqS),
  (0xe, .fcmpCuleS),
  (0xf, .fcmpSuleS),
  (0x10, .fcmpCneS),
  (0x11, .fcmpSneS),
  (0x14, .fcmpCorS),
  (0x15, .fcmpSorS),
  (0x18, .fcmpCuneS),
  (0x19, .fcmpSuneS)]

/-- The 22 conditions of FCMP.cond.D, by bits 19:15 (R380). -/
def condsD : List (Nat × (CReg → FReg → FReg → Instr)) := [
  (0x0, .fcmpCafD),
  (0x1, .fcmpSafD),
  (0x2, .fcmpCltD),
  (0x3, .fcmpSltD),
  (0x4, .fcmpCeqD),
  (0x5, .fcmpSeqD),
  (0x6, .fcmpCleD),
  (0x7, .fcmpSleD),
  (0x8, .fcmpCunD),
  (0x9, .fcmpSunD),
  (0xa, .fcmpCultD),
  (0xb, .fcmpSultD),
  (0xc, .fcmpCueqD),
  (0xd, .fcmpSueqD),
  (0xe, .fcmpCuleD),
  (0xf, .fcmpSuleD),
  (0x10, .fcmpCneD),
  (0x11, .fcmpSneD),
  (0x14, .fcmpCorD),
  (0x15, .fcmpSorD),
  (0x18, .fcmpCuneD),
  (0x19, .fcmpSuneD)]

/-- FCMP by its condition; a condition that is not in the table is no instruction (R129(i), R380). -/
def decodeFcmp (conds : List (Nat × (CReg → FReg → FReg → Instr))) (w : Word) : Decoded :=
  match conds.lookup (fa w).toNat with
  | some mk => .instr (mk (cd w) (rj w) (rk w))
  | none => .reserved

/-- The instructions whose opcode is bits 31:26 (R126, R130). -/
def opcodes26 : List Entry := [
  (0x12, fun w => if w.extractLsb' 8 2 = 0#2 then .instr (.bceqz (cj w) (offs21 w)) else if w.extractLsb' 8 2 = 1#2 then .instr (.bcnez (cj w) (offs21 w)) else .reserved),
  (0x16, fun w => .instr (.beq (rj w) (rd w) (offs16 w))),
  (0x17, fun w => .instr (.bne (rj w) (rd w) (offs16 w))),
  (0x18, fun w => .instr (.blt (rj w) (rd w) (offs16 w))),
  (0x19, fun w => .instr (.bge (rj w) (rd w) (offs16 w))),
  (0x1a, fun w => .instr (.bltu (rj w) (rd w) (offs16 w))),
  (0x1b, fun w => .instr (.bgeu (rj w) (rd w) (offs16 w))),
  (0x14, fun w => .instr (.b (offs26 w))),
  (0x15, fun w => .instr (.bl (offs26 w))),
  (0x13, fun w => .instr (.jirl (rd w) (rj w) (offs16 w)))]

/-- The instructions whose opcode is bits 31:25 (R126, R130). -/
def opcodes25 : List Entry := [
  (0xa, fun w => .instr (.lu12iW (rd w) (imm20 w))),
  (0xe, fun w => .instr (.pcaddu12i (rd w) (imm20 w)))]

/-- The instructions whose opcode is bits 31:24 (R126, R130). -/
def opcodes24 : List Entry := [
  (0x20, fun w => .instr (.llW (rd w) (rj w) (imm14 w))),
  (0x21, fun w => .instr (.scW (rd w) (rj w) (imm14 w))),
  (0x4, fun w => if rj w = 0#5 then .instr (.csrrd (rd w) (imm14 w)) else if rj w = 1#5 then .instr (.csrwr (rd w) (imm14 w)) else .instr (.csrxchg (rd w) (rj w) (imm14 w)))]

/-- The instructions whose opcode is bits 31:22 (R126, R130). -/
def opcodes22 : List Entry := [
  (0xa, fun w => .instr (.addiW (rd w) (rj w) (imm12 w))),
  (0x8, fun w => .instr (.slti (rd w) (rj w) (imm12 w))),
  (0x9, fun w => .instr (.sltui (rd w) (rj w) (imm12 w))),
  (0xd, fun w => .instr (.andi (rd w) (rj w) (imm12 w))),
  (0xe, fun w => .instr (.ori (rd w) (rj w) (imm12 w))),
  (0xf, fun w => .instr (.xori (rd w) (rj w) (imm12 w))),
  (0xa0, fun w => .instr (.ldB (rd w) (rj w) (imm12 w))),
  (0xa1, fun w => .instr (.ldH (rd w) (rj w) (imm12 w))),
  (0xa2, fun w => .instr (.ldW (rd w) (rj w) (imm12 w))),
  (0xa8, fun w => .instr (.ldBu (rd w) (rj w) (imm12 w))),
  (0xa9, fun w => .instr (.ldHu (rd w) (rj w) (imm12 w))),
  (0xa4, fun w => .instr (.stB (rd w) (rj w) (imm12 w))),
  (0xa5, fun w => .instr (.stH (rd w) (rj w) (imm12 w))),
  (0xa6, fun w => .instr (.stW (rd w) (rj w) (imm12 w))),
  (0xab, fun w => .instr (.preld (rd w) (rj w) (imm12 w))),
  (0xac, fun w => .instr (.fldS (rd w) (rj w) (imm12 w))),
  (0xad, fun w => .instr (.fldD (rd w) (rj w) (imm12 w))),
  (0xae, fun w => .instr (.fstS (rd w) (rj w) (imm12 w))),
  (0xaf, fun w => .instr (.fstD (rd w) (rj w) (imm12 w))),
  (0x18, fun w => .instr (.cacop (rd w) (rj w) (imm12 w)))]

/-- The instructions whose opcode is bits 31:20 (R126, R130). -/
def opcodes20 : List Entry := [
  (0x81, fun w => .instr (.fmaddS (rd w) (rj w) (rk w) (fa w))),
  (0x82, fun w => .instr (.fmaddD (rd w) (rj w) (rk w) (fa w))),
  (0x85, fun w => .instr (.fmsubS (rd w) (rj w) (rk w) (fa w))),
  (0x86, fun w => .instr (.fmsubD (rd w) (rj w) (rk w) (fa w))),
  (0x89, fun w => .instr (.fnmaddS (rd w) (rj w) (rk w) (fa w))),
  (0x8a, fun w => .instr (.fnmaddD (rd w) (rj w) (rk w) (fa w))),
  (0x8d, fun w => .instr (.fnmsubS (rd w) (rj w) (rk w) (fa w))),
  (0x8e, fun w => .instr (.fnmsubD (rd w) (rj w) (rk w) (fa w))),
  (0xd0, fun w => if w.extractLsb' 18 2 = 0#2 then .instr (.fsel (rd w) (rj w) (rk w) (ca w)) else .reserved),
  (0xc1, fun w => if w.extractLsb' 3 2 = 0#2 then decodeFcmp condsS w else .reserved),
  (0xc2, fun w => if w.extractLsb' 3 2 = 0#2 then decodeFcmp condsD w else .reserved)]

/-- The instructions whose opcode is bits 31:15 (R126, R130). -/
def opcodes15 : List Entry := [
  (0x20, fun w => .instr (.addW (rd w) (rj w) (rk w))),
  (0x22, fun w => .instr (.subW (rd w) (rj w) (rk w))),
  (0x24, fun w => .instr (.slt (rd w) (rj w) (rk w))),
  (0x25, fun w => .instr (.sltu (rd w) (rj w) (rk w))),
  (0x38, fun w => .instr (.mulW (rd w) (rj w) (rk w))),
  (0x39, fun w => .instr (.mulhW (rd w) (rj w) (rk w))),
  (0x3a, fun w => .instr (.mulhWu (rd w) (rj w) (rk w))),
  (0x40, fun w => .instr (.divW (rd w) (rj w) (rk w))),
  (0x42, fun w => .instr (.divWu (rd w) (rj w) (rk w))),
  (0x41, fun w => .instr (.modW (rd w) (rj w) (rk w))),
  (0x43, fun w => .instr (.modWu (rd w) (rj w) (rk w))),
  (0x29, fun w => .instr (.and (rd w) (rj w) (rk w))),
  (0x2a, fun w => .instr (.or (rd w) (rj w) (rk w))),
  (0x28, fun w => .instr (.nor (rd w) (rj w) (rk w))),
  (0x2b, fun w => .instr (.xor (rd w) (rj w) (rk w))),
  (0x2e, fun w => .instr (.sllW (rd w) (rj w) (rk w))),
  (0x2f, fun w => .instr (.srlW (rd w) (rj w) (rk w))),
  (0x30, fun w => .instr (.sraW (rd w) (rj w) (rk w))),
  (0x81, fun w => .instr (.slliW (rd w) (rj w) (rk w))),
  (0x89, fun w => .instr (.srliW (rd w) (rj w) (rk w))),
  (0x91, fun w => .instr (.sraiW (rd w) (rj w) (rk w))),
  (0x70e4, fun w => .instr (.dbar (imm15 w))),
  (0x70e5, fun w => .instr (.ibar (imm15 w))),
  (0x56, fun w => .instr (.syscall (imm15 w))),
  (0x54, fun w => .instr (.brk (imm15 w))),
  (0x201, fun w => .instr (.faddS (rd w) (rj w) (rk w))),
  (0x202, fun w => .instr (.faddD (rd w) (rj w) (rk w))),
  (0x205, fun w => .instr (.fsubS (rd w) (rj w) (rk w))),
  (0x206, fun w => .instr (.fsubD (rd w) (rj w) (rk w))),
  (0x209, fun w => .instr (.fmulS (rd w) (rj w) (rk w))),
  (0x20a, fun w => .instr (.fmulD (rd w) (rj w) (rk w))),
  (0x20d, fun w => .instr (.fdivS (rd w) (rj w) (rk w))),
  (0x20e, fun w => .instr (.fdivD (rd w) (rj w) (rk w))),
  (0x211, fun w => .instr (.fmaxS (rd w) (rj w) (rk w))),
  (0x212, fun w => .instr (.fmaxD (rd w) (rj w) (rk w))),
  (0x215, fun w => .instr (.fminS (rd w) (rj w) (rk w))),
  (0x216, fun w => .instr (.fminD (rd w) (rj w) (rk w))),
  (0x219, fun w => .instr (.fmaxaS (rd w) (rj w) (rk w))),
  (0x21a, fun w => .instr (.fmaxaD (rd w) (rj w) (rk w))),
  (0x21d, fun w => .instr (.fminaS (rd w) (rj w) (rk w))),
  (0x21e, fun w => .instr (.fminaD (rd w) (rj w) (rk w))),
  (0x225, fun w => .instr (.fcopysignS (rd w) (rj w) (rk w))),
  (0x226, fun w => .instr (.fcopysignD (rd w) (rj w) (rk w))),
  (0xc93, fun w => .instr (.invtlb (rd w) (rj w) (rk w))),
  (0xc91, fun w => .instr (.idle (imm15 w)))]

/-- The instructions whose opcode is bits 31:10 (R126, R130). -/
def opcodes10 : List Entry := [
  (0x18, fun w => if rj w = 0#5 then .instr (.rdcntvlW (rd w)) else if rd w = 0#5 then .instr (.rdcntid (rj w)) else .unspecified),
  (0x19, fun w => if rj w = 0#5 then .instr (.rdcntvhW (rd w)) else .unspecified),
  (0x4501, fun w => .instr (.fabsS (rd w) (rj w))),
  (0x4502, fun w => .instr (.fabsD (rd w) (rj w))),
  (0x4505, fun w => .instr (.fnegS (rd w) (rj w))),
  (0x4506, fun w => .instr (.fnegD (rd w) (rj w))),
  (0x4511, fun w => .instr (.fsqrtS (rd w) (rj w))),
  (0x4512, fun w => .instr (.fsqrtD (rd w) (rj w))),
  (0x4515, fun w => .instr (.frecipS (rd w) (rj w))),
  (0x4516, fun w => .instr (.frecipD (rd w) (rj w))),
  (0x4519, fun w => .instr (.frsqrtS (rd w) (rj w))),
  (0x451a, fun w => .instr (.frsqrtD (rd w) (rj w))),
  (0x450d, fun w => .instr (.fclassS (rd w) (rj w))),
  (0x450e, fun w => .instr (.fclassD (rd w) (rj w))),
  (0x4646, fun w => .instr (.fcvtSD (rd w) (rj w))),
  (0x4649, fun w => .instr (.fcvtDS (rd w) (rj w))),
  (0x4744, fun w => .instr (.ffintSW (rd w) (rj w))),
  (0x4748, fun w => .instr (.ffintDW (rd w) (rj w))),
  (0x46c1, fun w => .instr (.ftintWS (rd w) (rj w))),
  (0x46c2, fun w => .instr (.ftintWD (rd w) (rj w))),
  (0x4681, fun w => .instr (.ftintrmWS (rd w) (rj w))),
  (0x4682, fun w => .instr (.ftintrmWD (rd w) (rj w))),
  (0x4691, fun w => .instr (.ftintrpWS (rd w) (rj w))),
  (0x4692, fun w => .instr (.ftintrpWD (rd w) (rj w))),
  (0x46a1, fun w => .instr (.ftintrzWS (rd w) (rj w))),
  (0x46a2, fun w => .instr (.ftintrzWD (rd w) (rj w))),
  (0x46b1, fun w => .instr (.ftintrneWS (rd w) (rj w))),
  (0x46b2, fun w => .instr (.ftintrneWD (rd w) (rj w))),
  (0x4525, fun w => .instr (.fmovS (rd w) (rj w))),
  (0x4526, fun w => .instr (.fmovD (rd w) (rj w))),
  (0x4529, fun w => .instr (.movgr2frW (rd w) (rj w))),
  (0x452a, fun w => .instr (.movgr2frhW (rd w) (rj w))),
  (0x452d, fun w => .instr (.movfr2grS (rd w) (rj w))),
  (0x452e, fun w => .instr (.movfrh2grS (rd w) (rj w))),
  (0x4530, fun w => .instr (.movgr2fcsr (rd w) (rj w))),
  (0x4532, fun w => .instr (.movfcsr2gr (rd w) (rj w))),
  (0x4534, fun w => if w.extractLsb' 3 2 = 0#2 then .instr (.movfr2cf (cd w) (rj w)) else .reserved),
  (0x4535, fun w => if w.extractLsb' 8 2 = 0#2 then .instr (.movcf2fr (rd w) (cj w)) else .reserved),
  (0x4536, fun w => if w.extractLsb' 3 2 = 0#2 then .instr (.movgr2cf (cd w) (rj w)) else .reserved),
  (0x4537, fun w => if w.extractLsb' 8 2 = 0#2 then .instr (.movcf2gr (rd w) (cj w)) else .reserved),
  (0x1920a, fun w => if w.extractLsb' 0 10 = 0#10 then .instr .tlbsrch else .reserved),
  (0x1920b, fun w => if w.extractLsb' 0 10 = 0#10 then .instr .tlbrd else .reserved),
  (0x1920c, fun w => if w.extractLsb' 0 10 = 0#10 then .instr .tlbwr else .reserved),
  (0x1920d, fun w => if w.extractLsb' 0 10 = 0#10 then .instr .tlbfill else .reserved),
  (0x1920e, fun w => if w.extractLsb' 0 10 = 0#10 then .instr .ertn else .reserved)]

/-- The entry of a table for a word, when the word's bits 31:lo are the key of one. -/
def find (table : List Entry) (lo : Nat) (w : Word) : Option (Word → Decoded) :=
  table.lookup (w.extractLsb' lo (32 - lo)).toNat

end Decode

open Decode in
/-- Decode a word (R125 to R128): the opcode tables from the shortest opcode to the longest; no two of their rows overlap. -/
def decodeWord (w : Word) : Decoded :=
  match find opcodes26 26 w with
  | some f => f w
  | none =>
  match find opcodes25 25 w with
  | some f => f w
  | none =>
  match find opcodes24 24 w with
  | some f => f w
  | none =>
  match find opcodes22 22 w with
  | some f => f w
  | none =>
  match find opcodes20 20 w with
  | some f => f w
  | none =>
  match find opcodes15 15 w with
  | some f => f w
  | none =>
  match find opcodes10 10 w with
  | some f => f w
  | none => .reserved

/-- The word stored at four consecutive bytes, the first at the lowest address (R80, R120). -/
def wordOfBytes (b0 b1 b2 b3 : Byte) : Word := b3 ++ b2 ++ b1 ++ b0

/-- The bytes of a word in memory order (R80). -/
def bytesOfWord (w : Word) : List Byte :=
  [w.extractLsb' 0 8, w.extractLsb' 8 8, w.extractLsb' 16 8, w.extractLsb' 24 8]

/-- Decode the first instruction of a list of bytes and give the bytes after it; none when fewer than four are left. -/
def decodeBytes : List Byte → Option (Decoded × List Byte)
  | b0 :: b1 :: b2 :: b3 :: rest => some (decodeWord (wordOfBytes b0 b1 b2 b3), rest)
  | _ => none

/-- The instruction the decoder reads from an instruction whose bits are `w`, numbered as the opcode table numbers them: the
bits above `nbits` are zero, and the word is laid out little-endian before it is decoded. -/
def decodeTableWord (nbits w : Nat) : Option Instr :=
  match decodeBytes (bytesOfWord (BitVec.ofNat 32 (w % 2 ^ nbits))) with
  | some (.instr i, _) => some i
  | _ => none

namespace Encode

/-- Format 3R, and 2RI5 with ui5 in the place of rk (R122). -/
def f3R (op : BitVec 17) (k j d : BitVec 5) : Word := op ++ k ++ j ++ d
/-- Format 2R (R122). -/
def f2R (op : BitVec 22) (j d : BitVec 5) : Word := op ++ j ++ d
/-- Format 2R with a flag number in bits 2:0 (R127). -/
def f2Rcd (op : BitVec 22) (j : BitVec 5) (c : CReg) : Word := op ++ j ++ 0#2 ++ c
/-- Format 2R with a flag number in bits 7:5 (R127). -/
def f2Rcj (op : BitVec 22) (c : CReg) (d : BitVec 5) : Word := op ++ 0#2 ++ c ++ d
/-- Format 2RI12 (R122). -/
def f2RI12 (op : BitVec 10) (i : BitVec 12) (j d : BitVec 5) : Word := op ++ i ++ j ++ d
/-- Formats 2RI14 and CSR (R122). -/
def f2RI14 (op : BitVec 8) (i : BitVec 14) (j d : BitVec 5) : Word := op ++ i ++ j ++ d
/-- Format 1RI20 (R122). -/
def f1RI20 (op : BitVec 7) (i : BitVec 20) (d : BitVec 5) : Word := op ++ i ++ d
/-- Format 2RI16 (R122). -/
def f2RI16 (op : BitVec 6) (o : BitVec 16) (j d : BitVec 5) : Word := op ++ o ++ j ++ d
/-- Format I26 with its split offset (R124). -/
def fI26 (op : BitVec 6) (o : BitVec 26) : Word := op ++ o.extractLsb' 0 16 ++ o.extractLsb' 16 10
/-- Format 1RI21 with its split offset (R122, R124). -/
def f1RI21 (op : BitVec 6) (sub : BitVec 2) (c : CReg) (o : BitVec 21) : Word :=
  op ++ o.extractLsb' 0 16 ++ sub ++ c ++ o.extractLsb' 16 5
/-- Format 4R (R122). -/
def f4R (op : BitVec 12) (a k j d : BitVec 5) : Word := op ++ a ++ k ++ j ++ d
/-- Format I15 (R130). -/
def fI15 (op : BitVec 17) (i : BitVec 15) : Word := op ++ i
/-- Format FCMP (R381, R382). -/
def fFcmp (op : BitVec 12) (cond k j : BitVec 5) (c : CReg) : Word := op ++ cond ++ k ++ j ++ 0#2 ++ c
/-- Format FSEL (R422). -/
def fFsel (op : BitVec 12) (c : CReg) (k j d : BitVec 5) : Word := op ++ 0#2 ++ c ++ k ++ j ++ d

end Encode

open Encode in
/-- The word of an instruction (R130): the decoder's inverse on well-formed instructions. -/
def encode : Instr → Word
  | .addW rd rj rk => f3R 0x20#17 rk rj rd
  | .subW rd rj rk => f3R 0x22#17 rk rj rd
  | .addiW rd rj si12 => f2RI12 0xa#10 si12 rj rd
  | .lu12iW rd si20 => f1RI20 0xa#7 si20 rd
  | .slt rd rj rk => f3R 0x24#17 rk rj rd
  | .sltu rd rj rk => f3R 0x25#17 rk rj rd
  | .slti rd rj si12 => f2RI12 0x8#10 si12 rj rd
  | .sltui rd rj si12 => f2RI12 0x9#10 si12 rj rd
  | .pcaddu12i rd si20 => f1RI20 0xe#7 si20 rd
  | .mulW rd rj rk => f3R 0x38#17 rk rj rd
  | .mulhW rd rj rk => f3R 0x39#17 rk rj rd
  | .mulhWu rd rj rk => f3R 0x3a#17 rk rj rd
  | .divW rd rj rk => f3R 0x40#17 rk rj rd
  | .divWu rd rj rk => f3R 0x42#17 rk rj rd
  | .modW rd rj rk => f3R 0x41#17 rk rj rd
  | .modWu rd rj rk => f3R 0x43#17 rk rj rd
  | .and rd rj rk => f3R 0x29#17 rk rj rd
  | .or rd rj rk => f3R 0x2a#17 rk rj rd
  | .nor rd rj rk => f3R 0x28#17 rk rj rd
  | .xor rd rj rk => f3R 0x2b#17 rk rj rd
  | .andi rd rj ui12 => f2RI12 0xd#10 ui12 rj rd
  | .ori rd rj ui12 => f2RI12 0xe#10 ui12 rj rd
  | .xori rd rj ui12 => f2RI12 0xf#10 ui12 rj rd
  | .sllW rd rj rk => f3R 0x2e#17 rk rj rd
  | .srlW rd rj rk => f3R 0x2f#17 rk rj rd
  | .sraW rd rj rk => f3R 0x30#17 rk rj rd
  | .slliW rd rj ui5 => f3R 0x81#17 ui5 rj rd
  | .srliW rd rj ui5 => f3R 0x89#17 ui5 rj rd
  | .sraiW rd rj ui5 => f3R 0x91#17 ui5 rj rd
  | .beq rj rd offs16 => f2RI16 0x16#6 offs16 rj rd
  | .bne rj rd offs16 => f2RI16 0x17#6 offs16 rj rd
  | .blt rj rd offs16 => f2RI16 0x18#6 offs16 rj rd
  | .bge rj rd offs16 => f2RI16 0x19#6 offs16 rj rd
  | .bltu rj rd offs16 => f2RI16 0x1a#6 offs16 rj rd
  | .bgeu rj rd offs16 => f2RI16 0x1b#6 offs16 rj rd
  | .b offs26 => fI26 0x14#6 offs26
  | .bl offs26 => fI26 0x15#6 offs26
  | .jirl rd rj offs16 => f2RI16 0x13#6 offs16 rj rd
  | .ldB rd rj si12 => f2RI12 0xa0#10 si12 rj rd
  | .ldH rd rj si12 => f2RI12 0xa1#10 si12 rj rd
  | .ldW rd rj si12 => f2RI12 0xa2#10 si12 rj rd
  | .ldBu rd rj si12 => f2RI12 0xa8#10 si12 rj rd
  | .ldHu rd rj si12 => f2RI12 0xa9#10 si12 rj rd
  | .stB rd rj si12 => f2RI12 0xa4#10 si12 rj rd
  | .stH rd rj si12 => f2RI12 0xa5#10 si12 rj rd
  | .stW rd rj si12 => f2RI12 0xa6#10 si12 rj rd
  | .preld hint rj si12 => f2RI12 0xab#10 si12 rj hint
  | .llW rd rj si14 => f2RI14 0x20#8 si14 rj rd
  | .scW rd rj si14 => f2RI14 0x21#8 si14 rj rd
  | .dbar hint => fI15 0x70e4#17 hint
  | .ibar hint => fI15 0x70e5#17 hint
  | .syscall code => fI15 0x56#17 code
  | .brk code => fI15 0x54#17 code
  | .rdcntvlW rd => f2R 0x18#22 0#5 rd
  | .rdcntvhW rd => f2R 0x19#22 0#5 rd
  | .rdcntid rj => f2R 0x18#22 rj 0#5
  | .faddS fd fj fk => f3R 0x201#17 fk fj fd
  | .faddD fd fj fk => f3R 0x202#17 fk fj fd
  | .fsubS fd fj fk => f3R 0x205#17 fk fj fd
  | .fsubD fd fj fk => f3R 0x206#17 fk fj fd
  | .fmulS fd fj fk => f3R 0x209#17 fk fj fd
  | .fmulD fd fj fk => f3R 0x20a#17 fk fj fd
  | .fdivS fd fj fk => f3R 0x20d#17 fk fj fd
  | .fdivD fd fj fk => f3R 0x20e#17 fk fj fd
  | .fmaddS fd fj fk fa => f4R 0x81#12 fa fk fj fd
  | .fmaddD fd fj fk fa => f4R 0x82#12 fa fk fj fd
  | .fmsubS fd fj fk fa => f4R 0x85#12 fa fk fj fd
  | .fmsubD fd fj fk fa => f4R 0x86#12 fa fk fj fd
  | .fnmaddS fd fj fk fa => f4R 0x89#12 fa fk fj fd
  | .fnmaddD fd fj fk fa => f4R 0x8a#12 fa fk fj fd
  | .fnmsubS fd fj fk fa => f4R 0x8d#12 fa fk fj fd
  | .fnmsubD fd fj fk fa => f4R 0x8e#12 fa fk fj fd
  | .fmaxS fd fj fk => f3R 0x211#17 fk fj fd
  | .fmaxD fd fj fk => f3R 0x212#17 fk fj fd
  | .fminS fd fj fk => f3R 0x215#17 fk fj fd
  | .fminD fd fj fk => f3R 0x216#17 fk fj fd
  | .fmaxaS fd fj fk => f3R 0x219#17 fk fj fd
  | .fmaxaD fd fj fk => f3R 0x21a#17 fk fj fd
  | .fminaS fd fj fk => f3R 0x21d#17 fk fj fd
  | .fminaD fd fj fk => f3R 0x21e#17 fk fj fd
  | .fabsS fd fj => f2R 0x4501#22 fj fd
  | .fabsD fd fj => f2R 0x4502#22 fj fd
  | .fnegS fd fj => f2R 0x4505#22 fj fd
  | .fnegD fd fj => f2R 0x4506#22 fj fd
  | .fsqrtS fd fj => f2R 0x4511#22 fj fd
  | .fsqrtD fd fj => f2R 0x4512#22 fj fd
  | .frecipS fd fj => f2R 0x4515#22 fj fd
  | .frecipD fd fj => f2R 0x4516#22 fj fd
  | .frsqrtS fd fj => f2R 0x4519#22 fj fd
  | .frsqrtD fd fj => f2R 0x451a#22 fj fd
  | .fcopysignS fd fj fk => f3R 0x225#17 fk fj fd
  | .fcopysignD fd fj fk => f3R 0x226#17 fk fj fd
  | .fclassS fd fj => f2R 0x450d#22 fj fd
  | .fclassD fd fj => f2R 0x450e#22 fj fd
  | .fcmpCafS cd fj fk => fFcmp 0xc1#12 0x0#5 fk fj cd
  | .fcmpSafS cd fj fk => fFcmp 0xc1#12 0x1#5 fk fj cd
  | .fcmpCltS cd fj fk => fFcmp 0xc1#12 0x2#5 fk fj cd
  | .fcmpSltS cd fj fk => fFcmp 0xc1#12 0x3#5 fk fj cd
  | .fcmpCeqS cd fj fk => fFcmp 0xc1#12 0x4#5 fk fj cd
  | .fcmpSeqS cd fj fk => fFcmp 0xc1#12 0x5#5 fk fj cd
  | .fcmpCleS cd fj fk => fFcmp 0xc1#12 0x6#5 fk fj cd
  | .fcmpSleS cd fj fk => fFcmp 0xc1#12 0x7#5 fk fj cd
  | .fcmpCunS cd fj fk => fFcmp 0xc1#12 0x8#5 fk fj cd
  | .fcmpSunS cd fj fk => fFcmp 0xc1#12 0x9#5 fk fj cd
  | .fcmpCultS cd fj fk => fFcmp 0xc1#12 0xa#5 fk fj cd
  | .fcmpSultS cd fj fk => fFcmp 0xc1#12 0xb#5 fk fj cd
  | .fcmpCueqS cd fj fk => fFcmp 0xc1#12 0xc#5 fk fj cd
  | .fcmpSueqS cd fj fk => fFcmp 0xc1#12 0xd#5 fk fj cd
  | .fcmpCuleS cd fj fk => fFcmp 0xc1#12 0xe#5 fk fj cd
  | .fcmpSuleS cd fj fk => fFcmp 0xc1#12 0xf#5 fk fj cd
  | .fcmpCneS cd fj fk => fFcmp 0xc1#12 0x10#5 fk fj cd
  | .fcmpSneS cd fj fk => fFcmp 0xc1#12 0x11#5 fk fj cd
  | .fcmpCorS cd fj fk => fFcmp 0xc1#12 0x14#5 fk fj cd
  | .fcmpSorS cd fj fk => fFcmp 0xc1#12 0x15#5 fk fj cd
  | .fcmpCuneS cd fj fk => fFcmp 0xc1#12 0x18#5 fk fj cd
  | .fcmpSuneS cd fj fk => fFcmp 0xc1#12 0x19#5 fk fj cd
  | .fcmpCafD cd fj fk => fFcmp 0xc2#12 0x0#5 fk fj cd
  | .fcmpSafD cd fj fk => fFcmp 0xc2#12 0x1#5 fk fj cd
  | .fcmpCltD cd fj fk => fFcmp 0xc2#12 0x2#5 fk fj cd
  | .fcmpSltD cd fj fk => fFcmp 0xc2#12 0x3#5 fk fj cd
  | .fcmpCeqD cd fj fk => fFcmp 0xc2#12 0x4#5 fk fj cd
  | .fcmpSeqD cd fj fk => fFcmp 0xc2#12 0x5#5 fk fj cd
  | .fcmpCleD cd fj fk => fFcmp 0xc2#12 0x6#5 fk fj cd
  | .fcmpSleD cd fj fk => fFcmp 0xc2#12 0x7#5 fk fj cd
  | .fcmpCunD cd fj fk => fFcmp 0xc2#12 0x8#5 fk fj cd
  | .fcmpSunD cd fj fk => fFcmp 0xc2#12 0x9#5 fk fj cd
  | .fcmpCultD cd fj fk => fFcmp 0xc2#12 0xa#5 fk fj cd
  | .fcmpSultD cd fj fk => fFcmp 0xc2#12 0xb#5 fk fj cd
  | .fcmpCueqD cd fj fk => fFcmp 0xc2#12 0xc#5 fk fj cd
  | .fcmpSueqD cd fj fk => fFcmp 0xc2#12 0xd#5 fk fj cd
  | .fcmpCuleD cd fj fk => fFcmp 0xc2#12 0xe#5 fk fj cd
  | .fcmpSuleD cd fj fk => fFcmp 0xc2#12 0xf#5 fk fj cd
  | .fcmpCneD cd fj fk => fFcmp 0xc2#12 0x10#5 fk fj cd
  | .fcmpSneD cd fj fk => fFcmp 0xc2#12 0x11#5 fk fj cd
  | .fcmpCorD cd fj fk => fFcmp 0xc2#12 0x14#5 fk fj cd
  | .fcmpSorD cd fj fk => fFcmp 0xc2#12 0x15#5 fk fj cd
  | .fcmpCuneD cd fj fk => fFcmp 0xc2#12 0x18#5 fk fj cd
  | .fcmpSuneD cd fj fk => fFcmp 0xc2#12 0x19#5 fk fj cd
  | .fcvtSD fd fj => f2R 0x4646#22 fj fd
  | .fcvtDS fd fj => f2R 0x4649#22 fj fd
  | .ffintSW fd fj => f2R 0x4744#22 fj fd
  | .ffintDW fd fj => f2R 0x4748#22 fj fd
  | .ftintWS fd fj => f2R 0x46c1#22 fj fd
  | .ftintWD fd fj => f2R 0x46c2#22 fj fd
  | .ftintrmWS fd fj => f2R 0x4681#22 fj fd
  | .ftintrmWD fd fj => f2R 0x4682#22 fj fd
  | .ftintrpWS fd fj => f2R 0x4691#22 fj fd
  | .ftintrpWD fd fj => f2R 0x4692#22 fj fd
  | .ftintrzWS fd fj => f2R 0x46a1#22 fj fd
  | .ftintrzWD fd fj => f2R 0x46a2#22 fj fd
  | .ftintrneWS fd fj => f2R 0x46b1#22 fj fd
  | .ftintrneWD fd fj => f2R 0x46b2#22 fj fd
  | .fmovS fd fj => f2R 0x4525#22 fj fd
  | .fmovD fd fj => f2R 0x4526#22 fj fd
  | .fsel fd fj fk ca => fFsel 0xd0#12 ca fk fj fd
  | .movgr2frW fd rj => f2R 0x4529#22 rj fd
  | .movgr2frhW fd rj => f2R 0x452a#22 rj fd
  | .movfr2grS rd fj => f2R 0x452d#22 fj rd
  | .movfrh2grS rd fj => f2R 0x452e#22 fj rd
  | .movgr2fcsr fcsr rj => f2R 0x4530#22 rj fcsr
  | .movfcsr2gr rd fcsr => f2R 0x4532#22 fcsr rd
  | .movfr2cf cd fj => f2Rcd 0x4534#22 fj cd
  | .movcf2fr fd cj => f2Rcj 0x4535#22 cj fd
  | .movgr2cf cd rj => f2Rcd 0x4536#22 rj cd
  | .movcf2gr rd cj => f2Rcj 0x4537#22 cj rd
  | .bceqz cj offs21 => f1RI21 0x12#6 0#2 cj offs21
  | .bcnez cj offs21 => f1RI21 0x12#6 1#2 cj offs21
  | .fldS fd rj si12 => f2RI12 0xac#10 si12 rj fd
  | .fldD fd rj si12 => f2RI12 0xad#10 si12 rj fd
  | .fstS fd rj si12 => f2RI12 0xae#10 si12 rj fd
  | .fstD fd rj si12 => f2RI12 0xaf#10 si12 rj fd
  | .csrrd rd csr => f2RI14 0x4#8 csr 0#5 rd
  | .csrwr rd csr => f2RI14 0x4#8 csr 1#5 rd
  | .csrxchg rd rj csr => f2RI14 0x4#8 csr rj rd
  | .cacop code rj si12 => f2RI12 0x18#10 si12 rj code
  | .tlbsrch => 0x6482800#32
  | .tlbrd => 0x6482c00#32
  | .tlbwr => 0x6483000#32
  | .tlbfill => 0x6483400#32
  | .invtlb op rj rk => f3R 0xc93#17 rk rj op
  | .ertn => 0x6483800#32
  | .idle level => fI15 0xc91#17 level

/-- The fixed bits of an instruction's row: the column `mask` of R130. -/
def rowMask : Instr → Word
  | .addW _ _ _ => 0xFFFF8000#32
  | .subW _ _ _ => 0xFFFF8000#32
  | .addiW _ _ _ => 0xFFC00000#32
  | .lu12iW _ _ => 0xFE000000#32
  | .slt _ _ _ => 0xFFFF8000#32
  | .sltu _ _ _ => 0xFFFF8000#32
  | .slti _ _ _ => 0xFFC00000#32
  | .sltui _ _ _ => 0xFFC00000#32
  | .pcaddu12i _ _ => 0xFE000000#32
  | .mulW _ _ _ => 0xFFFF8000#32
  | .mulhW _ _ _ => 0xFFFF8000#32
  | .mulhWu _ _ _ => 0xFFFF8000#32
  | .divW _ _ _ => 0xFFFF8000#32
  | .divWu _ _ _ => 0xFFFF8000#32
  | .modW _ _ _ => 0xFFFF8000#32
  | .modWu _ _ _ => 0xFFFF8000#32
  | .and _ _ _ => 0xFFFF8000#32
  | .or _ _ _ => 0xFFFF8000#32
  | .nor _ _ _ => 0xFFFF8000#32
  | .xor _ _ _ => 0xFFFF8000#32
  | .andi _ _ _ => 0xFFC00000#32
  | .ori _ _ _ => 0xFFC00000#32
  | .xori _ _ _ => 0xFFC00000#32
  | .sllW _ _ _ => 0xFFFF8000#32
  | .srlW _ _ _ => 0xFFFF8000#32
  | .sraW _ _ _ => 0xFFFF8000#32
  | .slliW _ _ _ => 0xFFFF8000#32
  | .srliW _ _ _ => 0xFFFF8000#32
  | .sraiW _ _ _ => 0xFFFF8000#32
  | .beq _ _ _ => 0xFC000000#32
  | .bne _ _ _ => 0xFC000000#32
  | .blt _ _ _ => 0xFC000000#32
  | .bge _ _ _ => 0xFC000000#32
  | .bltu _ _ _ => 0xFC000000#32
  | .bgeu _ _ _ => 0xFC000000#32
  | .b _ => 0xFC000000#32
  | .bl _ => 0xFC000000#32
  | .jirl _ _ _ => 0xFC000000#32
  | .ldB _ _ _ => 0xFFC00000#32
  | .ldH _ _ _ => 0xFFC00000#32
  | .ldW _ _ _ => 0xFFC00000#32
  | .ldBu _ _ _ => 0xFFC00000#32
  | .ldHu _ _ _ => 0xFFC00000#32
  | .stB _ _ _ => 0xFFC00000#32
  | .stH _ _ _ => 0xFFC00000#32
  | .stW _ _ _ => 0xFFC00000#32
  | .preld _ _ _ => 0xFFC00000#32
  | .llW _ _ _ => 0xFF000000#32
  | .scW _ _ _ => 0xFF000000#32
  | .dbar _ => 0xFFFF8000#32
  | .ibar _ => 0xFFFF8000#32
  | .syscall _ => 0xFFFF8000#32
  | .brk _ => 0xFFFF8000#32
  | .rdcntvlW _ => 0xFFFFFFE0#32
  | .rdcntvhW _ => 0xFFFFFFE0#32
  | .rdcntid _ => 0xFFFFFC1F#32
  | .faddS _ _ _ => 0xFFFF8000#32
  | .faddD _ _ _ => 0xFFFF8000#32
  | .fsubS _ _ _ => 0xFFFF8000#32
  | .fsubD _ _ _ => 0xFFFF8000#32
  | .fmulS _ _ _ => 0xFFFF8000#32
  | .fmulD _ _ _ => 0xFFFF8000#32
  | .fdivS _ _ _ => 0xFFFF8000#32
  | .fdivD _ _ _ => 0xFFFF8000#32
  | .fmaddS _ _ _ _ => 0xFFF00000#32
  | .fmaddD _ _ _ _ => 0xFFF00000#32
  | .fmsubS _ _ _ _ => 0xFFF00000#32
  | .fmsubD _ _ _ _ => 0xFFF00000#32
  | .fnmaddS _ _ _ _ => 0xFFF00000#32
  | .fnmaddD _ _ _ _ => 0xFFF00000#32
  | .fnmsubS _ _ _ _ => 0xFFF00000#32
  | .fnmsubD _ _ _ _ => 0xFFF00000#32
  | .fmaxS _ _ _ => 0xFFFF8000#32
  | .fmaxD _ _ _ => 0xFFFF8000#32
  | .fminS _ _ _ => 0xFFFF8000#32
  | .fminD _ _ _ => 0xFFFF8000#32
  | .fmaxaS _ _ _ => 0xFFFF8000#32
  | .fmaxaD _ _ _ => 0xFFFF8000#32
  | .fminaS _ _ _ => 0xFFFF8000#32
  | .fminaD _ _ _ => 0xFFFF8000#32
  | .fabsS _ _ => 0xFFFFFC00#32
  | .fabsD _ _ => 0xFFFFFC00#32
  | .fnegS _ _ => 0xFFFFFC00#32
  | .fnegD _ _ => 0xFFFFFC00#32
  | .fsqrtS _ _ => 0xFFFFFC00#32
  | .fsqrtD _ _ => 0xFFFFFC00#32
  | .frecipS _ _ => 0xFFFFFC00#32
  | .frecipD _ _ => 0xFFFFFC00#32
  | .frsqrtS _ _ => 0xFFFFFC00#32
  | .frsqrtD _ _ => 0xFFFFFC00#32
  | .fcopysignS _ _ _ => 0xFFFF8000#32
  | .fcopysignD _ _ _ => 0xFFFF8000#32
  | .fclassS _ _ => 0xFFFFFC00#32
  | .fclassD _ _ => 0xFFFFFC00#32
  | .fcmpCafS _ _ _ => 0xFFFF8018#32
  | .fcmpSafS _ _ _ => 0xFFFF8018#32
  | .fcmpCltS _ _ _ => 0xFFFF8018#32
  | .fcmpSltS _ _ _ => 0xFFFF8018#32
  | .fcmpCeqS _ _ _ => 0xFFFF8018#32
  | .fcmpSeqS _ _ _ => 0xFFFF8018#32
  | .fcmpCleS _ _ _ => 0xFFFF8018#32
  | .fcmpSleS _ _ _ => 0xFFFF8018#32
  | .fcmpCunS _ _ _ => 0xFFFF8018#32
  | .fcmpSunS _ _ _ => 0xFFFF8018#32
  | .fcmpCultS _ _ _ => 0xFFFF8018#32
  | .fcmpSultS _ _ _ => 0xFFFF8018#32
  | .fcmpCueqS _ _ _ => 0xFFFF8018#32
  | .fcmpSueqS _ _ _ => 0xFFFF8018#32
  | .fcmpCuleS _ _ _ => 0xFFFF8018#32
  | .fcmpSuleS _ _ _ => 0xFFFF8018#32
  | .fcmpCneS _ _ _ => 0xFFFF8018#32
  | .fcmpSneS _ _ _ => 0xFFFF8018#32
  | .fcmpCorS _ _ _ => 0xFFFF8018#32
  | .fcmpSorS _ _ _ => 0xFFFF8018#32
  | .fcmpCuneS _ _ _ => 0xFFFF8018#32
  | .fcmpSuneS _ _ _ => 0xFFFF8018#32
  | .fcmpCafD _ _ _ => 0xFFFF8018#32
  | .fcmpSafD _ _ _ => 0xFFFF8018#32
  | .fcmpCltD _ _ _ => 0xFFFF8018#32
  | .fcmpSltD _ _ _ => 0xFFFF8018#32
  | .fcmpCeqD _ _ _ => 0xFFFF8018#32
  | .fcmpSeqD _ _ _ => 0xFFFF8018#32
  | .fcmpCleD _ _ _ => 0xFFFF8018#32
  | .fcmpSleD _ _ _ => 0xFFFF8018#32
  | .fcmpCunD _ _ _ => 0xFFFF8018#32
  | .fcmpSunD _ _ _ => 0xFFFF8018#32
  | .fcmpCultD _ _ _ => 0xFFFF8018#32
  | .fcmpSultD _ _ _ => 0xFFFF8018#32
  | .fcmpCueqD _ _ _ => 0xFFFF8018#32
  | .fcmpSueqD _ _ _ => 0xFFFF8018#32
  | .fcmpCuleD _ _ _ => 0xFFFF8018#32
  | .fcmpSuleD _ _ _ => 0xFFFF8018#32
  | .fcmpCneD _ _ _ => 0xFFFF8018#32
  | .fcmpSneD _ _ _ => 0xFFFF8018#32
  | .fcmpCorD _ _ _ => 0xFFFF8018#32
  | .fcmpSorD _ _ _ => 0xFFFF8018#32
  | .fcmpCuneD _ _ _ => 0xFFFF8018#32
  | .fcmpSuneD _ _ _ => 0xFFFF8018#32
  | .fcvtSD _ _ => 0xFFFFFC00#32
  | .fcvtDS _ _ => 0xFFFFFC00#32
  | .ffintSW _ _ => 0xFFFFFC00#32
  | .ffintDW _ _ => 0xFFFFFC00#32
  | .ftintWS _ _ => 0xFFFFFC00#32
  | .ftintWD _ _ => 0xFFFFFC00#32
  | .ftintrmWS _ _ => 0xFFFFFC00#32
  | .ftintrmWD _ _ => 0xFFFFFC00#32
  | .ftintrpWS _ _ => 0xFFFFFC00#32
  | .ftintrpWD _ _ => 0xFFFFFC00#32
  | .ftintrzWS _ _ => 0xFFFFFC00#32
  | .ftintrzWD _ _ => 0xFFFFFC00#32
  | .ftintrneWS _ _ => 0xFFFFFC00#32
  | .ftintrneWD _ _ => 0xFFFFFC00#32
  | .fmovS _ _ => 0xFFFFFC00#32
  | .fmovD _ _ => 0xFFFFFC00#32
  | .fsel _ _ _ _ => 0xFFFC0000#32
  | .movgr2frW _ _ => 0xFFFFFC00#32
  | .movgr2frhW _ _ => 0xFFFFFC00#32
  | .movfr2grS _ _ => 0xFFFFFC00#32
  | .movfrh2grS _ _ => 0xFFFFFC00#32
  | .movgr2fcsr _ _ => 0xFFFFFC00#32
  | .movfcsr2gr _ _ => 0xFFFFFC00#32
  | .movfr2cf _ _ => 0xFFFFFC18#32
  | .movcf2fr _ _ => 0xFFFFFF00#32
  | .movgr2cf _ _ => 0xFFFFFC18#32
  | .movcf2gr _ _ => 0xFFFFFF00#32
  | .bceqz _ _ => 0xFC000300#32
  | .bcnez _ _ => 0xFC000300#32
  | .fldS _ _ _ => 0xFFC00000#32
  | .fldD _ _ _ => 0xFFC00000#32
  | .fstS _ _ _ => 0xFFC00000#32
  | .fstD _ _ _ => 0xFFC00000#32
  | .csrrd _ _ => 0xFF0003E0#32
  | .csrwr _ _ => 0xFF0003E0#32
  | .csrxchg _ _ _ => 0xFF000000#32
  | .cacop _ _ _ => 0xFFC00000#32
  | .tlbsrch => 0xFFFFFFFF#32
  | .tlbrd => 0xFFFFFFFF#32
  | .tlbwr => 0xFFFFFFFF#32
  | .tlbfill => 0xFFFFFFFF#32
  | .invtlb _ _ _ => 0xFFFF8000#32
  | .ertn => 0xFFFFFFFF#32
  | .idle _ => 0xFFFF8000#32

/-- The values of those bits: the column `match` of R130. -/
def rowBits : Instr → Word
  | .addW _ _ _ => 0x00100000#32
  | .subW _ _ _ => 0x00110000#32
  | .addiW _ _ _ => 0x02800000#32
  | .lu12iW _ _ => 0x14000000#32
  | .slt _ _ _ => 0x00120000#32
  | .sltu _ _ _ => 0x00128000#32
  | .slti _ _ _ => 0x02000000#32
  | .sltui _ _ _ => 0x02400000#32
  | .pcaddu12i _ _ => 0x1C000000#32
  | .mulW _ _ _ => 0x001C0000#32
  | .mulhW _ _ _ => 0x001C8000#32
  | .mulhWu _ _ _ => 0x001D0000#32
  | .divW _ _ _ => 0x00200000#32
  | .divWu _ _ _ => 0x00210000#32
  | .modW _ _ _ => 0x00208000#32
  | .modWu _ _ _ => 0x00218000#32
  | .and _ _ _ => 0x00148000#32
  | .or _ _ _ => 0x00150000#32
  | .nor _ _ _ => 0x00140000#32
  | .xor _ _ _ => 0x00158000#32
  | .andi _ _ _ => 0x03400000#32
  | .ori _ _ _ => 0x03800000#32
  | .xori _ _ _ => 0x03C00000#32
  | .sllW _ _ _ => 0x00170000#32
  | .srlW _ _ _ => 0x00178000#32
  | .sraW _ _ _ => 0x00180000#32
  | .slliW _ _ _ => 0x00408000#32
  | .srliW _ _ _ => 0x00448000#32
  | .sraiW _ _ _ => 0x00488000#32
  | .beq _ _ _ => 0x58000000#32
  | .bne _ _ _ => 0x5C000000#32
  | .blt _ _ _ => 0x60000000#32
  | .bge _ _ _ => 0x64000000#32
  | .bltu _ _ _ => 0x68000000#32
  | .bgeu _ _ _ => 0x6C000000#32
  | .b _ => 0x50000000#32
  | .bl _ => 0x54000000#32
  | .jirl _ _ _ => 0x4C000000#32
  | .ldB _ _ _ => 0x28000000#32
  | .ldH _ _ _ => 0x28400000#32
  | .ldW _ _ _ => 0x28800000#32
  | .ldBu _ _ _ => 0x2A000000#32
  | .ldHu _ _ _ => 0x2A400000#32
  | .stB _ _ _ => 0x29000000#32
  | .stH _ _ _ => 0x29400000#32
  | .stW _ _ _ => 0x29800000#32
  | .preld _ _ _ => 0x2AC00000#32
  | .llW _ _ _ => 0x20000000#32
  | .scW _ _ _ => 0x21000000#32
  | .dbar _ => 0x38720000#32
  | .ibar _ => 0x38728000#32
  | .syscall _ => 0x002B0000#32
  | .brk _ => 0x002A0000#32
  | .rdcntvlW _ => 0x00006000#32
  | .rdcntvhW _ => 0x00006400#32
  | .rdcntid _ => 0x00006000#32
  | .faddS _ _ _ => 0x01008000#32
  | .faddD _ _ _ => 0x01010000#32
  | .fsubS _ _ _ => 0x01028000#32
  | .fsubD _ _ _ => 0x01030000#32
  | .fmulS _ _ _ => 0x01048000#32
  | .fmulD _ _ _ => 0x01050000#32
  | .fdivS _ _ _ => 0x01068000#32
  | .fdivD _ _ _ => 0x01070000#32
  | .fmaddS _ _ _ _ => 0x08100000#32
  | .fmaddD _ _ _ _ => 0x08200000#32
  | .fmsubS _ _ _ _ => 0x08500000#32
  | .fmsubD _ _ _ _ => 0x08600000#32
  | .fnmaddS _ _ _ _ => 0x08900000#32
  | .fnmaddD _ _ _ _ => 0x08A00000#32
  | .fnmsubS _ _ _ _ => 0x08D00000#32
  | .fnmsubD _ _ _ _ => 0x08E00000#32
  | .fmaxS _ _ _ => 0x01088000#32
  | .fmaxD _ _ _ => 0x01090000#32
  | .fminS _ _ _ => 0x010A8000#32
  | .fminD _ _ _ => 0x010B0000#32
  | .fmaxaS _ _ _ => 0x010C8000#32
  | .fmaxaD _ _ _ => 0x010D0000#32
  | .fminaS _ _ _ => 0x010E8000#32
  | .fminaD _ _ _ => 0x010F0000#32
  | .fabsS _ _ => 0x01140400#32
  | .fabsD _ _ => 0x01140800#32
  | .fnegS _ _ => 0x01141400#32
  | .fnegD _ _ => 0x01141800#32
  | .fsqrtS _ _ => 0x01144400#32
  | .fsqrtD _ _ => 0x01144800#32
  | .frecipS _ _ => 0x01145400#32
  | .frecipD _ _ => 0x01145800#32
  | .frsqrtS _ _ => 0x01146400#32
  | .frsqrtD _ _ => 0x01146800#32
  | .fcopysignS _ _ _ => 0x01128000#32
  | .fcopysignD _ _ _ => 0x01130000#32
  | .fclassS _ _ => 0x01143400#32
  | .fclassD _ _ => 0x01143800#32
  | .fcmpCafS _ _ _ => 0x0C100000#32
  | .fcmpSafS _ _ _ => 0x0C108000#32
  | .fcmpCltS _ _ _ => 0x0C110000#32
  | .fcmpSltS _ _ _ => 0x0C118000#32
  | .fcmpCeqS _ _ _ => 0x0C120000#32
  | .fcmpSeqS _ _ _ => 0x0C128000#32
  | .fcmpCleS _ _ _ => 0x0C130000#32
  | .fcmpSleS _ _ _ => 0x0C138000#32
  | .fcmpCunS _ _ _ => 0x0C140000#32
  | .fcmpSunS _ _ _ => 0x0C148000#32
  | .fcmpCultS _ _ _ => 0x0C150000#32
  | .fcmpSultS _ _ _ => 0x0C158000#32
  | .fcmpCueqS _ _ _ => 0x0C160000#32
  | .fcmpSueqS _ _ _ => 0x0C168000#32
  | .fcmpCuleS _ _ _ => 0x0C170000#32
  | .fcmpSuleS _ _ _ => 0x0C178000#32
  | .fcmpCneS _ _ _ => 0x0C180000#32
  | .fcmpSneS _ _ _ => 0x0C188000#32
  | .fcmpCorS _ _ _ => 0x0C1A0000#32
  | .fcmpSorS _ _ _ => 0x0C1A8000#32
  | .fcmpCuneS _ _ _ => 0x0C1C0000#32
  | .fcmpSuneS _ _ _ => 0x0C1C8000#32
  | .fcmpCafD _ _ _ => 0x0C200000#32
  | .fcmpSafD _ _ _ => 0x0C208000#32
  | .fcmpCltD _ _ _ => 0x0C210000#32
  | .fcmpSltD _ _ _ => 0x0C218000#32
  | .fcmpCeqD _ _ _ => 0x0C220000#32
  | .fcmpSeqD _ _ _ => 0x0C228000#32
  | .fcmpCleD _ _ _ => 0x0C230000#32
  | .fcmpSleD _ _ _ => 0x0C238000#32
  | .fcmpCunD _ _ _ => 0x0C240000#32
  | .fcmpSunD _ _ _ => 0x0C248000#32
  | .fcmpCultD _ _ _ => 0x0C250000#32
  | .fcmpSultD _ _ _ => 0x0C258000#32
  | .fcmpCueqD _ _ _ => 0x0C260000#32
  | .fcmpSueqD _ _ _ => 0x0C268000#32
  | .fcmpCuleD _ _ _ => 0x0C270000#32
  | .fcmpSuleD _ _ _ => 0x0C278000#32
  | .fcmpCneD _ _ _ => 0x0C280000#32
  | .fcmpSneD _ _ _ => 0x0C288000#32
  | .fcmpCorD _ _ _ => 0x0C2A0000#32
  | .fcmpSorD _ _ _ => 0x0C2A8000#32
  | .fcmpCuneD _ _ _ => 0x0C2C0000#32
  | .fcmpSuneD _ _ _ => 0x0C2C8000#32
  | .fcvtSD _ _ => 0x01191800#32
  | .fcvtDS _ _ => 0x01192400#32
  | .ffintSW _ _ => 0x011D1000#32
  | .ffintDW _ _ => 0x011D2000#32
  | .ftintWS _ _ => 0x011B0400#32
  | .ftintWD _ _ => 0x011B0800#32
  | .ftintrmWS _ _ => 0x011A0400#32
  | .ftintrmWD _ _ => 0x011A0800#32
  | .ftintrpWS _ _ => 0x011A4400#32
  | .ftintrpWD _ _ => 0x011A4800#32
  | .ftintrzWS _ _ => 0x011A8400#32
  | .ftintrzWD _ _ => 0x011A8800#32
  | .ftintrneWS _ _ => 0x011AC400#32
  | .ftintrneWD _ _ => 0x011AC800#32
  | .fmovS _ _ => 0x01149400#32
  | .fmovD _ _ => 0x01149800#32
  | .fsel _ _ _ _ => 0x0D000000#32
  | .movgr2frW _ _ => 0x0114A400#32
  | .movgr2frhW _ _ => 0x0114A800#32
  | .movfr2grS _ _ => 0x0114B400#32
  | .movfrh2grS _ _ => 0x0114B800#32
  | .movgr2fcsr _ _ => 0x0114C000#32
  | .movfcsr2gr _ _ => 0x0114C800#32
  | .movfr2cf _ _ => 0x0114D000#32
  | .movcf2fr _ _ => 0x0114D400#32
  | .movgr2cf _ _ => 0x0114D800#32
  | .movcf2gr _ _ => 0x0114DC00#32
  | .bceqz _ _ => 0x48000000#32
  | .bcnez _ _ => 0x48000100#32
  | .fldS _ _ _ => 0x2B000000#32
  | .fldD _ _ _ => 0x2B400000#32
  | .fstS _ _ _ => 0x2B800000#32
  | .fstD _ _ _ => 0x2BC00000#32
  | .csrrd _ _ => 0x04000000#32
  | .csrwr _ _ => 0x04000020#32
  | .csrxchg _ _ _ => 0x04000000#32
  | .cacop _ _ _ => 0x06000000#32
  | .tlbsrch => 0x06482800#32
  | .tlbrd => 0x06482C00#32
  | .tlbwr => 0x06483000#32
  | .tlbfill => 0x06483400#32
  | .invtlb _ _ _ => 0x06498000#32
  | .ertn => 0x06483800#32
  | .idle _ => 0x06488000#32

end Sys2Proof
end

