-- ==== Sys2Proof/Machine/State.lean ====
section
/-!
DEFINITION. The state of the machine as plain data, everything spec/10_state.md gives it, the reasons a step can stop, and
the state after reset (R70, R571).
-/
namespace Sys2Proof.Machine

/-- One page of a TLB entry: the fields V, D, PLV, MAT, PPN (R54, R61); PPN as wide as PALEN = 36 needs. -/
structure TlbPage where
  v : Bool
  d : Bool
  plv : BitVec 2
  mat : BitVec 2
  ppn : BitVec 24
  deriving DecidableEq, Repr

/-- A TLB entry: a pair of pages with their tag (R61). -/
structure TlbEntry where
  e : Bool
  asid : BitVec 10
  g : Bool
  ps : BitVec 6
  vppn : BitVec 19
  lo0 : TlbPage
  lo1 : TlbPage
  deriving DecidableEq, Repr

/-- The control and status registers that hold a value of their own (R42, R44 to R59). ESTAT holds IS[1:0], IS[11], Ecode and
EsubCode; its other IS bits are the interrupt inputs. ASID holds bits 9:0. PGD, CPUID, TVAL, TICLR and LLBCTL are computed. -/
structure Csrs where
  crmd : Word
  prmd : Word
  euen : Word
  ecfg : Word
  estat : Word
  era : Word
  badv : Word
  eentry : Word
  tlbidx : Word
  tlbehi : Word
  tlbelo0 : Word
  tlbelo1 : Word
  asid : Word
  pgdl : Word
  pgdh : Word
  save0 : Word
  save1 : Word
  save2 : Word
  save3 : Word
  tid : Word
  tcfg : Word
  tlbrentry : Word
  ctag : Word
  dmw0 : Word
  dmw1 : Word
  klo : Bool
  deriving DecidableEq, Repr

/-- What a region of physical memory holds (R89): memory, or a device whose behaviour the platform gives. -/
inductive RegionKind where
  | ram
  | device
  deriving DecidableEq, Repr

/-- A region of the platform's memory map: `size` bytes from `base` (R89, D30). -/
structure MemRegion where
  base : Nat
  size : Nat
  kind : RegionKind
  deriving DecidableEq, Repr

/-- The parameters the platform supplies (R7): constants that no step changes. PALEN is 32 and `palenOver32` more, 32 to 36 as
R54 and R90 admit; `timerBits` is TIMER_BITS, 32 at most; `cacheLineLog2` is the base-2 logarithm of CACHE_LINE;
`largePageSizes` are the members of TLB_PAGE_SIZES besides 12. TLB_ENTRIES is the length of the TLB in the state. -/
structure Platform where
  palenOver32 : Fin 5
  timerBits : Nat
  memMap : List MemRegion
  adeCheck : Bool
  coreId : BitVec 9
  cacheLineLog2 : Nat
  largePageSizes : List (BitVec 6)
  deriving DecidableEq, Repr

/-- What the outside does between two instructions (log 7): `ticks` counting clocks pass (R315, R551), the interrupt lines have
these levels (R521), the external agent stores these bytes (R100), LLbit is cleared spuriously (R293). With `reset` the core is
reset first (R571). -/
structure EnvEvent where
  ticks : Nat
  hwi : BitVec 8
  ipi : Bool
  stores : List (PAddr × Byte)
  clearLL : Bool
  reset : Bool
  deriving DecidableEq, Repr

/-- A store that a fetch may not see yet (R104): whether this core made it, and the bytes it wrote with what they held before. -/
structure StoreRecord where
  own : Bool
  before : List Host.Cell
  deriving DecidableEq, Repr

/-- The machine. -/
structure State where
  /-- x[0] .. x[31] (R20); index 0 always holds 0 (R21). -/
  gpr : Vector Word 32
  /-- The address of the instruction to execute (R24). -/
  pc : Word
  /-- f[0] .. f[31] (R30). -/
  fpr : Vector DWord 32
  /-- c[0] .. c[7] (R33). -/
  cfr : Vector Bool 8
  /-- FCSR0, whose fields the other FCSRs view (R35, R36). -/
  fcsr0 : Word
  csr : Csrs
  /-- TLB_ENTRIES entries (R61). -/
  tlb : List TlbEntry
  llbit : Bool
  /-- LLaddr, a physical address (R60, R291). -/
  llAddr : PAddr
  /-- Physical memory, in the canonical form of Machine/Memory.lean (R80). -/
  mem : List Host.Cell
  /-- The stores a fetch may not see yet, newest first: this core's since its last IBAR, the external agent's (R64(d), R104). -/
  unseen : List StoreRecord
  stableCounter : BitVec 64
  /-- The count-down timer (R551), read as TVAL. -/
  timer : Word
  timerRunning : Bool
  /-- The levels of HWI0 .. HWI7 (R521). -/
  hwi : BitVec 8
  /-- The level of the IPI input (R521). -/
  ipi : Bool
  /-- The wait state of IDLE (R491). -/
  idle : Bool
  /-- How many free values have been drawn: the model's own field (log 9). -/
  draws : Nat
  /-- The input events to come, one per step: the model's own field (log 7). -/
  env : List EnvEvent
  plat : Platform
  deriving DecidableEq, Repr

/-- Why a step stops with a fault. -/
inductive Fault where
  /-- An access, a fetch included, to a physical address the memory map does not admit (R89, U30). Raised by every memory
  operation. Safe: the model stops where a chip does something the spec does not give. -/
  | addressNotAdmitted
  deriving DecidableEq, Repr

/-- Why a step is refused. Every constructor is safe: the model stops where the spec says a model refuses, or where it gives
no effect. -/
inductive Refusal where
  /-- An instruction of the table that has no meaning yet. Raised by Machine/Dispatch.lean only. Safe. -/
  | notModelled (mnemonic : String)
  /-- A word that rule R129(g) leaves unspecified (U20). Raised by the step. Safe. -/
  | unspecifiedEncoding
  /-- LL.W or SC.W to memory whose access type is not Cached (U3, R294). Raised by LL.W and SC.W. Safe. -/
  | llscNotCached
  /-- SC.W with LLbit = 1 to an address other than LLaddr (U23, R294). Raised by SC.W. Safe. -/
  | scAddressMismatch
  /-- CACOP with code[4:3] = 3 or code[2:0] > 2 (U9, R470). Raised by CACOP. Safe. -/
  | cacopUndefined
  /-- TLBRD or TLBWR with an index outside the TLB (U10, R481, R482). Raised by them. Safe. -/
  | tlbIndexOutOfRange
  /-- Several TLB entries match (U13, R92, R480). Raised by every translated access and by TLBSRCH. Safe. -/
  | tlbMultipleHit
  /-- CRMD.DA = CRMD.PG (U14, R90). Raised by every access. Safe. -/
  | translationModeUndefined
  /-- A privilege level 1 or 2 would be entered (U15). Raised by CSRWR and CSRXCHG on CRMD and by ERTN. Safe. -/
  | illegalPlv
  /-- INVTLB op 4 to 6 with x[rj][31:10] not zero (U17, R485). Raised by INVTLB. Safe. -/
  | invtlbAsidBits
  /-- A valid TLB entry would be written with a page size outside TLB_PAGE_SIZES (U31, R484). Raised by TLBWR and TLBFILL. Safe. -/
  | pageSizeIllegal
  /-- The access type of an access is 2 or 3 (U25, R88). Raised by every access. Safe. -/
  | reservedAccessType
  /-- An access to a region the platform gives to a device (R89). Raised by every access. Safe. -/
  | deviceAccess
  deriving DecidableEq, Repr

/-- A page with every field zero. -/
def TlbPage.zero : TlbPage := { v := false, d := false, plv := 0#2, mat := 0#2, ppn := 0#24 }

/-- An invalid TLB entry with every field zero. -/
def TlbEntry.zero : TlbEntry :=
  { e := false, asid := 0#10, g := false, ps := 0#6, vppn := 0#19, lo0 := TlbPage.zero, lo1 := TlbPage.zero }

/-- The platform a machine has at reset: PALEN 32 and TIMER_BITS 32 as R7 suggests, all of the 2^32 bytes of physical memory are
RAM, ADE_CHECK on (its default), COREID 0, 64-byte cache lines, 4 KB pages only. DESIGN CHOICE, unsafe, log 5 and log 10. -/
def Platform.default : Platform :=
  { palenOver32 := 0, timerBits := 32, memMap := [{ base := 0, size := 2 ^ 32, kind := .ram }], adeCheck := true, coreId := 0#9,
    cacheLineLog2 := 6, largePageSizes := [] }

/-- The CSRs after reset (R70): CRMD is 0x8, TID is COREID, the bits R70 names are 0; every other field, which R70 leaves
unspecified, is 0, but for TLBIDX.PS = 12, the one page size the spec says is legal. DESIGN CHOICE, unsafe, log 1 to 3. -/
def Csrs.reset (coreId : BitVec 9) : Csrs :=
  { crmd := 0x8#32, prmd := 0#32, euen := 0#32, ecfg := 0#32, estat := 0#32, era := 0#32, badv := 0#32, eentry := 0#32,
    tlbidx := 0x0C000000#32, tlbehi := 0#32, tlbelo0 := 0#32, tlbelo1 := 0#32, asid := 0#32, pgdl := 0#32, pgdh := 0#32,
    save0 := 0#32, save1 := 0#32, save2 := 0#32, save3 := 0#32, tid := coreId.setWidth 32, tcfg := 0#32, tlbrentry := 0#32,
    ctag := 0#32, dmw0 := 0#32, dmw1 := 0#32, klo := false }

/-- The machine right after reset (R70, R571). The values R70 does not give are the model's: log 1 to 5, 8 to 10. The interrupt
input lines, whose level neither R48 nor R70 gives, are all low: DESIGN CHOICE, unsafe, log 7. -/
def State.reset : State :=
  { gpr := Vector.replicate 32 0#32, pc := Config.resetPc, fpr := Vector.replicate 32 0#64,
    cfr := Vector.replicate 8 false, fcsr0 := 0#32, csr := Csrs.reset Platform.default.coreId,
    tlb := List.replicate 32 TlbEntry.zero, llbit := false, llAddr := 0#36, mem := [], unseen := [],
    stableCounter := 0#64, timer := 0#32, timerRunning := false, hwi := 0#8, ipi := false, idle := false, draws := 0,
    env := [], plat := Platform.default }

end Sys2Proof.Machine
end

