-- ==== Sys2Proof/Machine/Fields.lean ====
section
/-!
DEFINITION. Bit-field helpers (spec/00_scope.md rules R8, R9): one field of a word replaced, bits replaced under a mask, an
aligned 64-byte entry address, small logarithms.
-/
namespace Sys2Proof.Machine

/-- `w` with the `n` bits from `lo` upward replaced by `v`. -/
def setField {n : Nat} (w : Word) (lo : Nat) (v : BitVec n) : Word :=
  (w &&& ~~~((BitVec.allOnes n).setWidth 32 <<< lo)) ||| (v.setWidth 32 <<< lo)

/-- `old` with the bits where `m` is 1 taken from `v` (R463). -/
def maskWrite (old v m : Word) : Word := (old &&& ~~~m) ||| (v &&& m)

/-- A Boolean as a 32-bit 0 or 1 (R205). -/
def boolWord (b : Bool) : Word := if b then 1#32 else 0#32

/-- `{w[31:6], 6'b0}` (R530). -/
def entryAddress (w : Word) : Word := w &&& 0xFFFFFFC0#32

/-- The least k up to 16 with n ≤ 2^k: the width of TLBIDX.Index for n entries (R52). -/
def ceilLog2 (n : Nat) : Nat := ((List.range 16).find? (fun k => n ≤ 2 ^ k)).getD 16

/-- A mask of the low `n` bits, n at most 32. -/
def lowMask (n : Nat) : Word := (1#32 <<< n) - 1#32

/-- A mask of the low `n` bits of a physical address, n at most 36. -/
def lowMaskP (n : Nat) : PAddr := (1#36 <<< n) - 1#36

/-- PALEN (R7). -/
def Platform.palen (p : Platform) : Nat := 32 + p.palenOver32.val

/-- Is `a` a multiple of `n` (R83)? -/
def aligned (a : Word) (n : Nat) : Bool := a.toNat % n == 0

end Sys2Proof.Machine
end

