-- ==== Sys2Proof/Machine/Memory.lean ====
section
/-!
DEFINITION. Memory as a list of (address, byte) in one canonical form, addresses strictly rising and no entry equal to what an
unlisted address reads as, with the byte and little-endian operations over it (spec/20_memory.md rules R80, R81), and the
stores that rule R104 lets a fetch not see.
-/
namespace Sys2Proof.Machine

/-- What a byte that nothing has written reads as. The spec leaves memory unspecified after reset (R70): DESIGN CHOICE,
unsafe, log 8. -/
def Memory.blank : Byte := 0#8

/-- The byte at an address. -/
def Memory.byte (m : List Host.Cell) (a : Nat) : Byte := (m.lookup a).getD Memory.blank

/-- Write one byte, keeping the canonical form. -/
def Memory.setByte : List Host.Cell → Nat → Byte → List Host.Cell
  | [], a, v => if v = Memory.blank then [] else [(a, v)]
  | (k, w) :: t, a, v =>
    if a < k then (if v = Memory.blank then (k, w) :: t else (a, v) :: (k, w) :: t)
    else if a = k then (if v = Memory.blank then t else (k, v) :: t)
    else (k, w) :: Memory.setByte t a v

/-- The little-endian value of the `n` bytes from `a` upward (R80). -/
def Memory.read (m : List Host.Cell) (a : Nat) : (n : Nat) → BitVec (8 * n)
  | 0 => 0#0
  | n + 1 => Memory.read m (a + 1) n ++ Memory.byte m a

/-- Write an `8n`-bit value to the `n` bytes from `a` upward, least significant byte first (R80). -/
def Memory.write (m : List Host.Cell) (a : Nat) : (n : Nat) → BitVec (8 * n) → List Host.Cell
  | 0, _ => m
  | n + 1, v => Memory.write (Memory.setByte m a (v.extractLsb' 0 8)) (a + 1) n (v.extractLsb' 8 (8 * n))

/-- The canonical form from address `lo` upward: addresses strictly rising below 2^36, the most that PALEN admits (R54), no blank
entry. -/
def Memory.wfFrom : Nat → List Host.Cell → Bool
  | _, [] => true
  | lo, (k, v) :: t => decide (lo ≤ k) && decide (k < 2 ^ 36) && v != Memory.blank && Memory.wfFrom (k + 1) t

/-- The canonical form of memory. -/
def Memory.wf (m : List Host.Cell) : Bool := Memory.wfFrom 0 m

/-- The `n` bytes from `a` upward with their addresses. -/
def Memory.cells (m : List Host.Cell) (a : Nat) : Nat → List Host.Cell
  | 0 => []
  | n + 1 => (a, Memory.byte m a) :: Memory.cells m (a + 1) n

/-- Does the store write one of the `n` bytes from `a` upward? -/
def StoreRecord.touches (r : StoreRecord) (a n : Nat) : Bool := r.before.any fun c => decide (a ≤ c.1) && decide (c.1 < a + n)

/-- The record without the bytes that the list names. -/
def StoreRecord.without (r : StoreRecord) (l : List Host.Cell) : StoreRecord :=
  { r with before := r.before.filter fun c => (l.lookup c.1).isNone }

/-- The byte at `a` as a fetch finds it that does not see the `own` newest stores of this core and the `ext` newest of the
external agent (R104); `now` is what it holds after the stores of the list. -/
def Unseen.byte (a : Nat) : List StoreRecord → (own ext : Nat) → (now : Byte) → Byte
  | [], _, _, now => now
  | r :: rs, own, ext, now =>
    match r.own, own, ext with
    | true, 0, _ => if (r.before.lookup a).isSome then now else Unseen.byte a rs 0 ext now
    | true, own + 1, _ => Unseen.byte a rs own ext ((r.before.lookup a).getD now)
    | false, _, 0 => if (r.before.lookup a).isSome then now else Unseen.byte a rs own 0 now
    | false, _, ext + 1 => Unseen.byte a rs own ext ((r.before.lookup a).getD now)

/-- The little-endian value of `n` bytes as such a fetch finds them. -/
def Unseen.read (m : List Host.Cell) (l : List StoreRecord) (own ext a : Nat) : (n : Nat) → BitVec (8 * n)
  | 0 => 0#0
  | n + 1 => Unseen.read m l own ext (a + 1) n ++ Unseen.byte a l own ext (Memory.byte m a)

/-- The stores a fetch may still not see after an IBAR (R102, R297): none of this core, and of the external agent none at a
byte that this core stored to later, for there the fetch sees this core's store. -/
def Unseen.sync : List StoreRecord → List StoreRecord
  | [] => []
  | r :: rs => if r.own then (Unseen.sync rs).map (·.without r.before) else r :: Unseen.sync rs

/-- Forget the stores to the `n` bytes from `a` upward. -/
def Unseen.forget (l : List StoreRecord) (a n : Nat) : List StoreRecord := l.map (·.without (Memory.cells [] a n))

end Sys2Proof.Machine
end

