-- ==== Sys2Proof/Machine/Exc.lean ====
section
/-!
DEFINITION. The exceptions with their codes and what each records (spec/60_exceptions.md rules R501, R531), and the result of
an operation inside an instruction: a value, an exception to take, or a stop.
-/
namespace Sys2Proof.Machine

/-- The exceptions of R501. -/
inductive Exc where
  | int | pil | pis | pif | pme | ppi | adef | adem | ale | sys | brk | ine | ipe | fpd | fpe | tlbr
  deriving DecidableEq, Repr

/-- Ecode (R501). -/
def Exc.ecode : Exc → BitVec 6
  | .int => 0x0#6 | .pil => 0x1#6 | .pis => 0x2#6 | .pif => 0x3#6 | .pme => 0x4#6 | .ppi => 0x7#6
  | .adef => 0x8#6 | .adem => 0x8#6 | .ale => 0x9#6 | .sys => 0xB#6 | .brk => 0xC#6 | .ine => 0xD#6
  | .ipe => 0xE#6 | .fpd => 0xF#6 | .fpe => 0x12#6 | .tlbr => 0x3F#6

/-- EsubCode (R501): 1 for ADEM, else 0. -/
def Exc.esubcode : Exc → BitVec 9
  | .adem => 1#9
  | _ => 0#9

/-- Does the exception write TLBEHI.VPPN (R531)? -/
def Exc.recordsVppn : Exc → Bool
  | .tlbr | .pil | .pis | .pif | .pme | .ppi => true
  | _ => false

/-- Does the exception write BADV (R531)? -/
def Exc.recordsBadv : Exc → Bool
  | .adef | .adem | .ale => true
  | e => e.recordsVppn

/-- The kinds of access (R90). -/
inductive Access where
  | fetch
  | load
  | store
  deriving DecidableEq, Repr

/-- The result of an operation inside an instruction: `raise e va` is the pseudocode's `raise e(va)` (R13). -/
inductive Res (α : Type) where
  | ok (a : α)
  | raise (e : Exc) (va : Word)
  | fault (r : Fault)
  | refuse (r : Refusal)
  deriving DecidableEq, Repr

/-- Go on with the value, or stop as the first operation stopped (R12). -/
def Res.bind {α β : Type} (r : Res α) (f : α → Res β) : Res β :=
  match r with
  | .ok a => f a
  | .raise e va => .raise e va
  | .fault q => .fault q
  | .refuse q => .refuse q

end Sys2Proof.Machine
end

