-- ==== Sys2Proof/Machine/Csr.lean ====
section
/-!
DEFINITION. The control and status registers: names and numbers (spec/10_state.md rule R42), fields (R44 to R59), the read and
write operations of CSRRD, CSRWR and CSRXCHG (spec/49_privileged.md rule R464), and the count-down timer
(spec/60_exceptions.md rule R551). The numbers and layouts are the spec's general knowledge (its D7), log 22.
-/
namespace Sys2Proof.Machine

/-- The CSRs that exist (R42). -/
inductive CsrName where
  | crmd | prmd | euen | ecfg | estat | era | badv | eentry | tlbidx | tlbehi | tlbelo0 | tlbelo1 | asid
  | pgdl | pgdh | pgd | cpuid | save0 | save1 | save2 | save3 | tid | tcfg | tval | ticlr | llbctl
  | tlbrentry | ctag | dmw0 | dmw1
  deriving DecidableEq, Repr

/-- The number of each CSR (R42). -/
def csrTable : List (Nat × CsrName) := [
  (0x0, .crmd), (0x1, .prmd), (0x2, .euen), (0x4, .ecfg), (0x5, .estat), (0x6, .era), (0x7, .badv), (0xC, .eentry),
  (0x10, .tlbidx), (0x11, .tlbehi), (0x12, .tlbelo0), (0x13, .tlbelo1), (0x18, .asid), (0x19, .pgdl), (0x1A, .pgdh),
  (0x1B, .pgd), (0x20, .cpuid), (0x30, .save0), (0x31, .save1), (0x32, .save2), (0x33, .save3), (0x40, .tid),
  (0x41, .tcfg), (0x42, .tval), (0x44, .ticlr), (0x60, .llbctl), (0x88, .tlbrentry), (0x98, .ctag), (0x180, .dmw0),
  (0x181, .dmw1)]

/-- The CSR a number names, if any (R40, R42). -/
def csrOfNum (n : CsrNum) : Option CsrName := csrTable.lookup n.toNat

/-- CRMD.PLV (R44). -/
def State.plv (s : State) : BitVec 2 := s.csr.crmd.extractLsb' 0 2
/-- CRMD.IE (R44). -/
def State.ie (s : State) : Bool := s.csr.crmd.getLsbD 2
/-- CRMD.DA (R44). -/
def State.da (s : State) : Bool := s.csr.crmd.getLsbD 3
/-- CRMD.PG (R44). -/
def State.pg (s : State) : Bool := s.csr.crmd.getLsbD 4
/-- CRMD.DATF (R44). -/
def State.datf (s : State) : BitVec 2 := s.csr.crmd.extractLsb' 5 2
/-- CRMD.DATM (R44). -/
def State.datm (s : State) : BitVec 2 := s.csr.crmd.extractLsb' 7 2
/-- PRMD.PPLV (R45). -/
def State.pplv (s : State) : BitVec 2 := s.csr.prmd.extractLsb' 0 2
/-- EUEN.FPE (R46). -/
def State.fpe (s : State) : Bool := s.csr.euen.getLsbD 0
/-- ESTAT.Ecode (R48). -/
def State.ecode (s : State) : BitVec 6 := s.csr.estat.extractLsb' 16 6
/-- ASID.ASID (R55). -/
def State.asid (s : State) : BitVec 10 := s.csr.asid.extractLsb' 0 10
/-- TLBIDX.PS (R52). -/
def State.tlbPs (s : State) : BitVec 6 := s.csr.tlbidx.extractLsb' 24 6
/-- TLBIDX.NE (R52). -/
def State.tlbNe (s : State) : Bool := s.csr.tlbidx.getLsbD 31
/-- The width of TLBIDX.Index for this TLB (R52). -/
def State.indexBits (s : State) : Nat := ceilLog2 s.tlb.length
/-- TLBIDX.Index (R52). -/
def State.tlbIndex (s : State) : Nat := (s.csr.tlbidx &&& lowMask s.indexBits).toNat
/-- TCFG.En (R57). -/
def State.timerEn (s : State) : Bool := s.csr.tcfg.getLsbD 0
/-- TCFG.Periodic (R57). -/
def State.timerPeriodic (s : State) : Bool := s.csr.tcfg.getLsbD 1
/-- `{TCFG.InitVal, 2'b00}`, what the timer is loaded with (R551). -/
def timerInit (tcfg : Word) : Word := tcfg &&& 0xFFFFFFFC#32

/-- ESTAT as software reads it: the stored bits with the interrupt inputs in IS[9:2] and IS[12] (R48, R464). -/
def State.estatRead (s : State) : Word :=
  s.csr.estat ||| (s.hwi.setWidth 32 <<< 2) ||| (boolWord s.ipi <<< 12)

/-- The interrupt sources that are pending and locally enabled: ESTAT.IS and ECFG.LIE (R520). -/
def State.pending (s : State) : BitVec 13 := s.estatRead.extractLsb' 0 13 &&& s.csr.ecfg.extractLsb' 0 13

/-- The value a CSR reads as (R464, R44 to R59). -/
def State.readCsr (s : State) : CsrName → Word
  | .crmd => s.csr.crmd
  | .prmd => s.csr.prmd
  | .euen => s.csr.euen
  | .ecfg => s.csr.ecfg
  | .estat => s.estatRead
  | .era => s.csr.era
  | .badv => s.csr.badv
  | .eentry => s.csr.eentry
  | .tlbidx => s.csr.tlbidx
  | .tlbehi => s.csr.tlbehi
  | .tlbelo0 => s.csr.tlbelo0
  | .tlbelo1 => s.csr.tlbelo1
  | .asid => s.csr.asid ||| 0x000A0000#32
  | .pgdl => s.csr.pgdl
  | .pgdh => s.csr.pgdh
  | .pgd => if s.csr.badv.getLsbD 31 then s.csr.pgdh else s.csr.pgdl
  | .cpuid => s.plat.coreId.setWidth 32
  | .save0 => s.csr.save0
  | .save1 => s.csr.save1
  | .save2 => s.csr.save2
  | .save3 => s.csr.save3
  | .tid => s.csr.tid
  | .tcfg => s.csr.tcfg
  | .tval => s.timer
  | .ticlr => 0#32
  | .llbctl => boolWord s.llbit ||| (boolWord s.csr.klo <<< 2)
  | .tlbrentry => s.csr.tlbrentry
  | .ctag => s.csr.ctag
  | .dmw0 => s.csr.dmw0
  | .dmw1 => s.csr.dmw1

/-- The bits of TLBELO0 and TLBELO1 that are fields: PPN ends at bit PALEN-5 (R54). -/
def State.pageBits (s : State) : Word := lowMask (s.plat.palen - 4) &&& 0xFFFFFF7F#32

/-- The bits of a CSR's RW fields (R43, R44 to R59); the registers whose write is not a plain one have their own case in
`State.writeCsr`. CTAG is taken as 32 plain bits: DESIGN CHOICE, log 6. -/
def State.writableBits (s : State) : CsrName → Word
  | .crmd => 0x000001FF#32
  | .prmd => 0x00000007#32
  | .euen => 0x00000001#32
  | .ecfg => 0x00001BFF#32
  | .estat => 0x00000003#32
  | .era | .badv | .save0 | .save1 | .save2 | .save3 | .tid | .ctag => 0xFFFFFFFF#32
  | .tcfg => lowMask s.plat.timerBits ||| 3#32
  | .eentry | .tlbrentry => 0xFFFFFFC0#32
  | .tlbidx => lowMask s.indexBits ||| 0xBF000000#32
  | .tlbehi => 0xFFFFE000#32
  | .tlbelo0 | .tlbelo1 => s.pageBits
  | .asid => 0x000003FF#32
  | .pgdl | .pgdh => 0xFFFFF000#32
  | .dmw0 | .dmw1 => 0xEE000039#32
  | .llbctl => 0x00000004#32
  | .pgd | .cpuid | .tval | .ticlr => 0#32

/-- The RW bits under the mask replaced (R464). -/
def State.csrBits (s : State) (r : CsrName) (old v m : Word) : Word := maskWrite old v (m &&& s.writableBits r)

/-- A write of TCFG: the timer is reloaded and runs when En becomes 1, and stops when it becomes 0 (R551). A mask of zero is no
write (R463): DEDUCED, log 16. -/
def State.writeTcfg (s : State) (v m : Word) : State :=
  let new := s.csrBits .tcfg s.csr.tcfg v m
  if m = 0#32 then s
  else if new.getLsbD 0 then
    { s with csr := { s.csr with tcfg := new }, timer := timerInit new, timerRunning := true }
  else { s with csr := { s.csr with tcfg := new }, timerRunning := false }

/-- A write of a CSR with value `v` under mask `m` (R464). A PLV of 1 or 2 in CRMD is refused (U15). -/
def State.writeCsr (s : State) (r : CsrName) (v m : Word) : Res State :=
  match r with
  | .crmd =>
    let new := s.csrBits .crmd s.csr.crmd v m
    if new.extractLsb' 0 2 = 1#2 ∨ new.extractLsb' 0 2 = 2#2 then .refuse .illegalPlv
    else .ok { s with csr := { s.csr with crmd := new } }
  | .prmd => .ok { s with csr := { s.csr with prmd := s.csrBits .prmd s.csr.prmd v m } }
  | .euen => .ok { s with csr := { s.csr with euen := s.csrBits .euen s.csr.euen v m } }
  | .ecfg => .ok { s with csr := { s.csr with ecfg := s.csrBits .ecfg s.csr.ecfg v m } }
  | .estat => .ok { s with csr := { s.csr with estat := s.csrBits .estat s.csr.estat v m } }
  | .era => .ok { s with csr := { s.csr with era := s.csrBits .era s.csr.era v m } }
  | .badv => .ok { s with csr := { s.csr with badv := s.csrBits .badv s.csr.badv v m } }
  | .eentry => .ok { s with csr := { s.csr with eentry := s.csrBits .eentry s.csr.eentry v m } }
  | .tlbidx => .ok { s with csr := { s.csr with tlbidx := s.csrBits .tlbidx s.csr.tlbidx v m } }
  | .tlbehi => .ok { s with csr := { s.csr with tlbehi := s.csrBits .tlbehi s.csr.tlbehi v m } }
  | .tlbelo0 => .ok { s with csr := { s.csr with tlbelo0 := s.csrBits .tlbelo0 s.csr.tlbelo0 v m } }
  | .tlbelo1 => .ok { s with csr := { s.csr with tlbelo1 := s.csrBits .tlbelo1 s.csr.tlbelo1 v m } }
  | .asid => .ok { s with csr := { s.csr with asid := s.csrBits .asid s.csr.asid v m } }
  | .pgdl => .ok { s with csr := { s.csr with pgdl := s.csrBits .pgdl s.csr.pgdl v m } }
  | .pgdh => .ok { s with csr := { s.csr with pgdh := s.csrBits .pgdh s.csr.pgdh v m } }
  | .save0 => .ok { s with csr := { s.csr with save0 := s.csrBits .save0 s.csr.save0 v m } }
  | .save1 => .ok { s with csr := { s.csr with save1 := s.csrBits .save1 s.csr.save1 v m } }
  | .save2 => .ok { s with csr := { s.csr with save2 := s.csrBits .save2 s.csr.save2 v m } }
  | .save3 => .ok { s with csr := { s.csr with save3 := s.csrBits .save3 s.csr.save3 v m } }
  | .tid => .ok { s with csr := { s.csr with tid := s.csrBits .tid s.csr.tid v m } }
  | .tcfg => .ok (s.writeTcfg v m)
  | .ticlr =>
    if (v &&& m).getLsbD 0 then .ok { s with csr := { s.csr with estat := s.csr.estat &&& ~~~0x800#32 } } else .ok s
  | .llbctl =>
    .ok { s with llbit := s.llbit && !(v &&& m).getLsbD 1,
                 csr := { s.csr with klo := if m.getLsbD 2 then v.getLsbD 2 else s.csr.klo } }
  | .tlbrentry => .ok { s with csr := { s.csr with tlbrentry := s.csrBits .tlbrentry s.csr.tlbrentry v m } }
  | .ctag => .ok { s with csr := { s.csr with ctag := s.csrBits .ctag s.csr.ctag v m } }
  | .dmw0 => .ok { s with csr := { s.csr with dmw0 := s.csrBits .dmw0 s.csr.dmw0 v m } }
  | .dmw1 => .ok { s with csr := { s.csr with dmw1 := s.csrBits .dmw1 s.csr.dmw1 v m } }
  | .pgd | .cpuid | .tval => .ok s

/-- `CSRread(n)` (R464): a number that names no CSR reads 0 (R40). -/
def State.csrRead (s : State) (n : CsrNum) : Word :=
  match csrOfNum n with
  | some r => s.readCsr r
  | none => 0#32

/-- `CSRwrite(n, v, m)` (R464): a number that names no CSR ignores the write (R40). -/
def State.csrWrite (s : State) (n : CsrNum) (v m : Word) : Res State :=
  match csrOfNum n with
  | some r => s.writeCsr r v m
  | none => .ok s

/-- One counting clock of the timer (R551). -/
def State.timerClock (s : State) : State :=
  if s.timerRunning then
    if s.timer = 0#32 then
      let s := { s with csr := { s.csr with estat := s.csr.estat ||| 0x800#32 } }
      if s.timerPeriodic then { s with timer := timerInit s.csr.tcfg } else { s with timerRunning := false }
    else { s with timer := s.timer - 1#32 }
  else s

/-- `k` counting clocks of the timer, in one step: `timerClock` `k` times (R551). -/
def State.timerClocks (s : State) (k : Nat) : State :=
  if s.timerRunning then
    if k ≤ s.timer.toNat then { s with timer := s.timer - BitVec.ofNat 32 k }
    else
      let s' := { s with csr := { s.csr with estat := s.csr.estat ||| 0x800#32 } }
      if s.timerPeriodic then
        let p := timerInit s.csr.tcfg
        { s' with timer := p - BitVec.ofNat 32 ((k - s.timer.toNat - 1) % (p.toNat + 1)) }
      else { s' with timer := 0#32, timerRunning := false }
  else s

end Sys2Proof.Machine
end

