-- ==== Sys2Proof/Machine/Tlb.lean ====
section
/-!
DEFINITION. The TLB and address translation: lookup (spec/20_memory.md rule R92), direct mapping windows (R91), the legality
check (R95), `Translate` (R90), and the entry that TLBWR and TLBFILL write (spec/49_privileged.md rule R484).
-/
namespace Sys2Proof.Machine

/-- Does the entry's tag match a virtual page-pair number, over the bits its page size leaves (R92)? -/
def TlbEntry.vppnMatches (t : TlbEntry) (vppn : BitVec 19) : Bool :=
  t.vppn >>> (t.ps.toNat - 12) == vppn >>> (t.ps.toNat - 12)

/-- Does the entry match a lookup (R92)? -/
def TlbEntry.hits (t : TlbEntry) (asid : BitVec 10) (vppn : BitVec 19) : Bool :=
  t.e && (t.g || t.asid == asid) && t.vppnMatches vppn

/-- The page of the pair that holds an address (R92). -/
def TlbEntry.page (t : TlbEntry) (va : Word) : TlbPage := if va.getLsbD t.ps.toNat then t.lo1 else t.lo0

/-- The physical address, `palen` bits wide: the page number above the page size, the virtual address below it (R92). -/
def TlbPage.address (p : TlbPage) (palen : Nat) (ps : BitVec 6) (va : Word) : PAddr :=
  (((p.ppn ++ 0#12) &&& ~~~lowMaskP ps.toNat) ||| (va.setWidth 36 &&& lowMaskP ps.toNat)) &&& lowMaskP palen

/-- The exception of an access to a page with V = 0 (R92). -/
def Access.invalid : Access → Exc
  | .fetch => .pif
  | .load => .pil
  | .store => .pis

/-- The exception of the legality check (R95). -/
def Access.addressError : Access → Exc
  | .fetch => .adef
  | .load => .adem
  | .store => .adem

/-- The permission checks of a matching entry, in the order of R92, and the physical address. -/
def TlbEntry.translate (t : TlbEntry) (palen : Nat) (plv : BitVec 2) (va : Word) (k : Access) : Res (PAddr × BitVec 2) :=
  let p := t.page va
  if !p.v then .raise k.invalid va
  else if p.plv.toNat < plv.toNat then .raise .ppi va
  else if k = .store ∧ p.d = false then .raise .pme va
  else .ok (p.address palen t.ps va, p.mat)

/-- The entries that match an address under the current ASID (R92). -/
def State.tlbHits (s : State) (va : Word) : List TlbEntry :=
  s.tlb.filter (fun t => t.hits s.asid (va.extractLsb' 13 19))

/-- `TlbTranslate` (R92); several matches are refused (U13). -/
def State.tlbTranslate (s : State) (va : Word) (k : Access) : Res (PAddr × BitVec 2) :=
  match s.tlbHits va with
  | [] => .raise .tlbr va
  | [t] => t.translate s.plat.palen s.plv va k
  | _ => .refuse .tlbMultipleHit

/-- `window_hit` (R91). -/
def State.windowHit (s : State) (w va : Word) : Bool :=
  va.extractLsb' 29 3 == w.extractLsb' 29 3 &&
    ((s.plv == 0#2 && w.getLsbD 0) || (s.plv == 3#2 && w.getLsbD 3))

/-- `{w.PSEG, vaddr[28:0]}` zero-extended to PALEN and the window's access type (R91). -/
def windowTranslate (w va : Word) : PAddr × BitVec 2 :=
  ((w.extractLsb' 25 3 ++ va.extractLsb' 0 29).setWidth 36, w.extractLsb' 4 2)

/-- The address translation of R90 before the access type is looked at; in direct mode `zext_PALEN(vaddr)`. -/
def State.mapAddress (s : State) (va : Word) (k : Access) : Res (PAddr × BitVec 2) :=
  if s.da ∧ ¬ s.pg then .ok (va.setWidth 36, if k = .fetch then s.datf else s.datm)
  else if s.pg ∧ ¬ s.da then
    if s.windowHit s.csr.dmw0 va then .ok (windowTranslate s.csr.dmw0 va)
    else if s.windowHit s.csr.dmw1 va then .ok (windowTranslate s.csr.dmw1 va)
    else if s.plat.adeCheck ∧ s.plv = 3#2 ∧ va.getLsbD 31 then .raise k.addressError va
    else s.tlbTranslate va k
  else .refuse .translationModeUndefined

/-- `Translate(vaddr, kind)` (R90): physical address and access type; the reserved types 2 and 3 are refused (U25, R88). -/
def State.translate (s : State) (va : Word) (k : Access) : Res (PAddr × BitVec 2) :=
  (s.mapAddress va k).bind fun pm => if pm.2.getLsbD 1 then .refuse .reservedAccessType else .ok pm

/-- The page fields of TLBELO0 or TLBELO1 (R54). -/
def TlbPage.ofWord (w : Word) : TlbPage :=
  { v := w.getLsbD 0, d := w.getLsbD 1, plv := w.extractLsb' 2 2, mat := w.extractLsb' 4 2, ppn := w.extractLsb' 8 24 }

/-- A page as TLBELO0 or TLBELO1 shows it, with the G bit of its entry (R54, R481). -/
def TlbPage.toWord (p : TlbPage) (g : Bool) : Word :=
  p.ppn ++ 0#1 ++ BitVec.ofBool g ++ p.mat ++ p.plv ++ BitVec.ofBool p.d ++ BitVec.ofBool p.v

/-- `NewEntry()` (R484). -/
def State.newTlbEntry (s : State) : TlbEntry :=
  { e := s.ecode == 0x3F#6 || !s.tlbNe, asid := s.asid, g := s.csr.tlbelo0.getLsbD 6 && s.csr.tlbelo1.getLsbD 6,
    ps := s.tlbPs, vppn := s.csr.tlbehi.extractLsb' 13 19, lo0 := TlbPage.ofWord (s.csr.tlbelo0 &&& s.pageBits),
    lo1 := TlbPage.ofWord (s.csr.tlbelo1 &&& s.pageBits) }

/-- Is a page size a member of TLB_PAGE_SIZES (R7, D15)? 12 always is. -/
def State.pageSizeLegal (s : State) (ps : BitVec 6) : Bool := ps == 12#6 || s.plat.largePageSizes.contains ps

/-- The entry that TLBWR and TLBFILL write; a valid entry with an illegal page size is refused (U31). -/
def State.checkedTlbEntry (s : State) : Res TlbEntry :=
  let t := s.newTlbEntry
  if t.e && !s.pageSizeLegal t.ps then .refuse .pageSizeIllegal else .ok t

/-- The indices, counted from `i`, of the entries that satisfy `p`. -/
def tlbIndices (p : TlbEntry → Bool) : List TlbEntry → Nat → List Nat
  | [], _ => []
  | t :: ts, i => if p t then i :: tlbIndices p ts (i + 1) else tlbIndices p ts (i + 1)

/-- The indices of the entries that match TLBEHI and ASID (R480). -/
def State.tlbSearch (s : State) : List Nat :=
  tlbIndices (fun t => t.hits s.asid (s.csr.tlbehi.extractLsb' 13 19)) s.tlb 0

/-- The entries INVTLB selects, by op (R485). -/
def TlbEntry.invSelected (t : TlbEntry) (op : BitVec 5) (asid : BitVec 10) (va : Word) : Bool :=
  match op.toNat with
  | 0 => true
  | 1 => true
  | 2 => t.g
  | 3 => !t.g
  | 4 => !t.g && t.asid == asid
  | 5 => !t.g && t.asid == asid && t.vppnMatches (va.extractLsb' 13 19)
  | 6 => (t.g || t.asid == asid) && t.vppnMatches (va.extractLsb' 13 19)
  | _ => false

end Sys2Proof.Machine
end

