-- ==== Sys2Proof/Machine/Operands.lean ====
section
/-!
DEFINITION. The operand forms: registers (spec/10_state.md rules R20 to R33), immediates (spec/30_encoding.md rule R123),
effective addresses (spec/43_load_store.md rule R270, spec/44_atomic_barrier.md rule R290) and branch targets
(spec/42_branch.md rule R250).
-/
namespace Sys2Proof.Machine

/-- Read a general register; x[0] reads 0 (R20, R21). -/
def State.reg (s : State) (r : GReg) : Word := if r = 0#5 then 0#32 else s.gpr[r.toNat]'r.isLt

/-- Write a general register; a write to x[0] is discarded (R21). -/
def State.setReg (s : State) (r : GReg) (v : Word) : State :=
  if r = 0#5 then s else { s with gpr := s.gpr.set r.toNat v r.isLt }

/-- All 64 bits of a floating-point register (R30). -/
def State.freg (s : State) (r : FReg) : DWord := s.fpr[r.toNat]'r.isLt

/-- Bits 31:0 of a floating-point register, the operand of a `.S` instruction (R30, R330). -/
def State.fregLow (s : State) (r : FReg) : Word := (s.freg r).extractLsb' 0 32

/-- Write all 64 bits of a floating-point register (R10). -/
def State.setFreg (s : State) (r : FReg) (v : DWord) : State := { s with fpr := s.fpr.set r.toNat v r.isLt }

/-- Write bits 31:0 of a floating-point register; bits 63:32 become a free value (R31, U7, log 11). -/
def State.setFregLow (s : State) (r : FReg) (v : Word) : State :=
  { s.setFreg r (Config.freeHighHalf s.draws ++ v) with draws := s.draws + 1 }

/-- Write bits 63:32 of a floating-point register and keep bits 31:0 (R31, R424). -/
def State.setFregHigh (s : State) (r : FReg) (v : Word) : State := s.setFreg r (v ++ s.fregLow r)

/-- Read a condition flag (R33). -/
def State.cflag (s : State) (c : CReg) : Bool := s.cfr[c.toNat]'c.isLt

/-- Write a condition flag (R33). -/
def State.setCflag (s : State) (c : CReg) (v : Bool) : State := { s with cfr := s.cfr.set c.toNat v c.isLt }

/-- si12, sign-extended (R123). -/
def sext12 (i : BitVec 12) : Word := i.signExtend 32

/-- ui12, zero-extended (R123). -/
def zext12 (i : BitVec 12) : Word := i.setWidth 32

/-- `{si20, 12'b0}` (R123). -/
def upper20 (i : BitVec 20) : Word := i ++ 0#12

/-- `sext_32({i, 2'b0})`: si14 and the branch offsets (R123). -/
def scaled {n : Nat} (i : BitVec n) : Word := (i ++ 0#2).signExtend 32

/-- A shift amount in a register: its low 5 bits (R238). -/
def shiftAmount (w : Word) : Nat := (w.extractLsb' 0 5).toNat

/-- The address of a load, store, PRELD or CACOP (R270). -/
def State.effAddr (s : State) (rj : GReg) (si12 : BitVec 12) : Word := s.reg rj + sext12 si12

/-- The address of LL.W and SC.W (R290). -/
def State.llAddrOf (s : State) (rj : GReg) (si14 : BitVec 14) : Word := s.reg rj + scaled si14

/-- The target of a PC-relative branch (R250). -/
def State.target {n : Nat} (s : State) (offs : BitVec n) : Word := s.pc + scaled offs

/-- Go on at the next instruction: pc + 4 modulo 2^32 (R12, R25). -/
def State.advance (s : State) : State := { s with pc := s.pc + 4#32 }

/-- Go on at an address (R10). -/
def State.jump (s : State) (t : Word) : State := { s with pc := t }

/-- A conditional PC-relative branch (R250). -/
def State.branchIf {n : Nat} (s : State) (taken : Bool) (offs : BitVec n) : State :=
  if taken then s.jump (s.target offs) else s.advance

end Sys2Proof.Machine
end

