-- ==== Sys2Proof/Machine/Ops.lean ====
section
/-!
DEFINITION. The shared operations of the instructions: taking an exception and returning from one (spec/60_exceptions.md rule
R530, spec/49_privileged.md rule R490), the privilege and floating-point-unit checks, memory access and fetch
(spec/20_memory.md rules R84 to R86, R104), LL and SC (spec/44_atomic_barrier.md), and what the outside does between two
instructions.
-/
namespace Sys2Proof.Machine

/-- Trap entry (R530) for an exception or interrupt, with the information of R531; `va` is the virtual address of the access.
The pc saved is the state's pc. TLB refill also switches to direct address mode and enters at TLBRENTRY. -/
def State.trapEntry (s : State) (e : Exc) (va : Word) : State :=
  let crmd := setField s.csr.crmd 0 0#3
  { s with
    pc := entryAddress (if e = .tlbr then s.csr.tlbrentry else s.csr.eentry)
    csr := { s.csr with
      prmd := setField s.csr.prmd 0 (s.csr.crmd.extractLsb' 0 3)
      crmd := if e = .tlbr then setField crmd 3 0b01#2 else crmd
      era := s.pc
      estat := setField (setField s.csr.estat 16 e.ecode) 22 e.esubcode
      badv := if e.recordsBadv then va else s.csr.badv
      tlbehi := if e.recordsVppn then setField s.csr.tlbehi 13 (va.extractLsb' 13 19) else s.csr.tlbehi } }

/-- The return of ERTN (R490): PLV and IE from PRMD, after a TLB refill back to mapped mode, LLbit cleared unless KLO, KLO
cleared, pc from ERA. A previous level 1 or 2 is refused (U15). -/
def State.returnFromException (s : State) : Res State :=
  if s.pplv = 1#2 ∨ s.pplv = 2#2 then .refuse .illegalPlv
  else
    let crmd := setField s.csr.crmd 0 (s.csr.prmd.extractLsb' 0 3)
    .ok { s with
      pc := s.csr.era
      llbit := s.llbit && s.csr.klo
      csr := { s.csr with
        crmd := if s.ecode = 0x3F#6 then setField crmd 3 0b10#2 else crmd
        klo := false } }

/-- How an instruction that began in `s` ends: in its next state, in the trap entry of the exception it raises (R12, R530), or
in a stop. -/
def State.complete (s : State) (r : Res State) : Host.Outcome State Fault Refusal :=
  match r with
  | .ok t => .next t
  | .raise e va => .next (s.trapEntry e va)
  | .fault q => .fault q
  | .refuse q => .refused q

/-- `if CSR.CRMD.PLV != 0: raise IPE` (R460). -/
def State.kernelOnly (s : State) : Res Unit := if s.plv = 0#2 then .ok () else .raise .ipe 0#32

/-- `if CSR.EUEN.FPE = 0: raise FPD` (R46, R335). -/
def State.fpOnly (s : State) : Res Unit := if s.fpe then .ok () else .raise .fpd 0#32

/-- What stands at a physical address, if anything (R89). -/
def Platform.kindAt (p : Platform) (a : Nat) : Option RegionKind :=
  (p.memMap.find? fun r => decide (r.base ≤ a) && decide (a < r.base + r.size)).map (·.kind)

/-- May the `n` bytes from `a` upward be accessed (R89, U30)? A byte no region holds is a fault, a device's byte a refusal. -/
def Platform.allows (p : Platform) (a : Nat) : Nat → Res Unit
  | 0 => .ok ()
  | n + 1 =>
    match p.kindAt a with
    | none => .fault .addressNotAdmitted
    | some .device => .refuse .deviceAccess
    | some .ram => p.allows (a + 1) n

/-- Write `n` bytes of physical memory as a store of this core, which a fetch may not see yet (R104). -/
def State.writeMem (s : State) (pa : Nat) (n : Nat) (v : BitVec (8 * n)) : State :=
  { s with mem := Memory.write s.mem pa n v, unseen := ⟨true, Memory.cells s.mem pa n⟩ :: s.unseen }

/-- `MemRead(vaddr, n)` (R84): alignment, translation as a load, the platform, the bytes. -/
def State.load (s : State) (va : Word) (n : Nat) : Res (BitVec (8 * n)) :=
  if aligned va n then
    (s.translate va .load).bind fun pm =>
    (s.plat.allows pm.1.toNat n).bind fun _ =>
    .ok (Memory.read s.mem pm.1.toNat n)
  else .raise .ale va

/-- `MemWrite(vaddr, n, v)` (R85): alignment, translation as a store, the platform, the bytes. -/
def State.store (s : State) (va : Word) (n : Nat) (v : BitVec (8 * n)) : Res State :=
  if aligned va n then
    (s.translate va .store).bind fun pm =>
    (s.plat.allows pm.1.toNat n).bind fun _ =>
    .ok (s.writeMem pm.1.toNat n v)
  else .raise .ale va

/-- The words a fetch from a physical address may return (R104): the word in memory, and the word as it was before some of the
newest stores to it, of this core since its last IBAR and of the external agent; of one store it sees all or nothing (R87). -/
def State.fetchable (s : State) (pa : Nat) : List Word :=
  let l := s.unseen.filter (·.touches pa 4)
  (List.range (l.length + 1)).flatMap fun own => (List.range (l.length + 1)).map fun ext => Unseen.read s.mem l own ext pa 4

/-- The word a fetch returns (R104): when the words it may return differ, a free choice among them (log 19). -/
def State.fetchWord (s : State) (pa : Nat) : Word × State :=
  let now : Word := Memory.read s.mem pa 4
  if (s.fetchable pa).all (· == now) then (now, s)
  else ((s.fetchable pa).getD (Config.freeFetchPick s.draws % (s.fetchable pa).length) now, { s with draws := s.draws + 1 })

/-- `MemFetch(pc)` (R86), with the state after the free choice of R104. -/
def State.fetch (s : State) : Res (Word × State) :=
  if aligned s.pc 4 then
    (s.translate s.pc .fetch).bind fun pm =>
    (s.plat.allows pm.1.toNat 4).bind fun _ =>
    .ok (s.fetchWord pm.1.toNat)
  else .raise .adef s.pc

/-- The access of LL.W (R291): the word, and the state with the reservation set on its physical address. Memory that is not
Cached is refused (R294, U3). -/
def State.loadLinked (s : State) (va : Word) : Res (Word × State) :=
  if aligned va 4 then
    (s.translate va .load).bind fun pm =>
    if pm.2 = 1#2 then
      (s.plat.allows pm.1.toNat 4).bind fun _ =>
      .ok (Memory.read s.mem pm.1.toNat 4, { s with llbit := true, llAddr := pm.1 })
    else .refuse .llscNotCached
  else .raise .ale va

/-- The access of SC.W (R292): whether it stored, and the state after it, in which LLbit is a free value (R293(d)). Memory that
is not Cached, and a reservation on another address, are refused (R294, U3, U23). -/
def State.storeConditional (s : State) (va v : Word) : Res (Bool × State) :=
  if aligned va 4 then
    (s.translate va .store).bind fun pm =>
    if pm.2 = 1#2 then
      if s.llbit then
        if pm.1 = s.llAddr then
          (s.plat.allows pm.1.toNat 4).bind fun _ =>
          .ok (true, { s.writeMem pm.1.toNat 4 v with llbit := Config.freeScLLbit s.draws, draws := s.draws + 1 })
        else .refuse .scAddressMismatch
      else .ok (false, { s with llbit := Config.freeScLLbit s.draws, draws := s.draws + 1 })
    else .refuse .llscNotCached
  else .raise .ale va

/-- Do two physical addresses lie in one cache line (R293(b))? -/
def Platform.sameLine (p : Platform) (a b : PAddr) : Bool := a >>> p.cacheLineLog2 == b >>> p.cacheLineLog2

/-- A store of one byte by the external agent (R100): it reaches RAM only, and clears LLbit when it falls into the reserved
line (R293(b)). -/
def State.externalStore (s : State) (c : PAddr × Byte) : State :=
  if s.plat.kindAt c.1.toNat = some .ram then
    { s with
      mem := Memory.setByte s.mem c.1.toNat c.2
      unseen := ⟨false, Memory.cells s.mem c.1.toNat 1⟩ :: s.unseen
      llbit := s.llbit && !s.plat.sameLine c.1 s.llAddr }
  else s

/-- A reset of a running machine (R571): the reset state; memory is the platform's and stays, and so do the platform's constants
and the model's own fields, the count of free values and the input events to come. -/
def State.afterReset (s : State) : State :=
  { State.reset with
    csr := Csrs.reset s.plat.coreId
    tlb := List.replicate s.tlb.length TlbEntry.zero
    mem := s.mem
    draws := s.draws
    env := s.env
    plat := s.plat }

/-- What an input event does to the machine (log 7): a reset, if it is one, and then what the outside does until the next
instruction. How many counting clocks pass between a reset and that instruction is the event's, any number (R63, R315). -/
def State.applyEvent (s : State) (ev : EnvEvent) : State :=
  let s := if ev.reset then s.afterReset else s
  let s := s.timerClocks ev.ticks
  let s := ev.stores.foldl State.externalStore s
  { s with
    stableCounter := s.stableCounter + BitVec.ofNat 64 ev.ticks
    hwi := ev.hwi
    ipi := ev.ipi
    llbit := s.llbit && !ev.clearLL }

/-- The machine at an instruction boundary, after the next input event; with no event to come nothing happens (log 7). -/
def State.input (s : State) : State :=
  match s.env with
  | [] => s
  | ev :: rest => { s with env := rest }.applyEvent ev

end Sys2Proof.Machine
end

