-- ==== Sys2Proof/Machine/Atomic.lean ====
section
/-!
DEFINITION. LL.W, SC.W and the barriers (spec/44_atomic_barrier.md).
-/
namespace Sys2Proof.Machine

/-- LL.W (R291): the word at the address; the reservation is set. -/
def execLlW (rd : GReg) (rj : GReg) (si14 : BitVec 14) (s : State) : Host.Outcome State Fault Refusal :=
  s.complete ((s.loadLinked (s.llAddrOf rj si14)).bind fun wt => .ok (wt.2.setReg rd wt.1).advance)

/-- SC.W (R292): stores the old rd when LLbit is 1; rd becomes the LLbit it saw. -/
def execScW (rd : GReg) (rj : GReg) (si14 : BitVec 14) (s : State) : Host.Outcome State Fault Refusal :=
  s.complete ((s.storeConditional (s.llAddrOf rj si14) (s.reg rd)).bind fun bt => .ok (bt.2.setReg rd (boolWord bt.1)).advance)

/-- DBAR (R296): orders accesses for other observers; every hint as hint 0; nothing this core can read changes. -/
def execDbar (_hint : BitVec 15) (s : State) : Host.Outcome State Fault Refusal :=
  .next s.advance

/-- IBAR (R297): every later fetch sees every earlier store of this core (R104); every hint as hint 0. -/
def execIbar (_hint : BitVec 15) (s : State) : Host.Outcome State Fault Refusal :=
  .next { s with unseen := Unseen.sync s.unseen }.advance

end Sys2Proof.Machine
end

