-- ==== Sys2Proof/Machine/Branch.lean ====
section
/-!
DEFINITION. Branches and jumps (spec/42_branch.md).
-/
namespace Sys2Proof.Machine

/-- BEQ (R251): taken when equal. -/
def execBeq (rj : GReg) (rd : GReg) (offs16 : BitVec 16) (s : State) : Host.Outcome State Fault Refusal :=
  .next (s.branchIf (s.reg rj == s.reg rd) offs16)

/-- BNE (R252): taken when not equal. -/
def execBne (rj : GReg) (rd : GReg) (offs16 : BitVec 16) (s : State) : Host.Outcome State Fault Refusal :=
  .next (s.branchIf (s.reg rj != s.reg rd) offs16)

/-- BLT (R253): taken when rj is less than rd as signed integers. -/
def execBlt (rj : GReg) (rd : GReg) (offs16 : BitVec 16) (s : State) : Host.Outcome State Fault Refusal :=
  .next (s.branchIf ((s.reg rj).slt (s.reg rd)) offs16)

/-- BGE (R254): taken when rj is not less than rd as signed integers. -/
def execBge (rj : GReg) (rd : GReg) (offs16 : BitVec 16) (s : State) : Host.Outcome State Fault Refusal :=
  .next (s.branchIf (!(s.reg rj).slt (s.reg rd)) offs16)

/-- BLTU (R255): taken when rj is less than rd as unsigned integers. -/
def execBltu (rj : GReg) (rd : GReg) (offs16 : BitVec 16) (s : State) : Host.Outcome State Fault Refusal :=
  .next (s.branchIf ((s.reg rj).ult (s.reg rd)) offs16)

/-- BGEU (R256): taken when rj is not less than rd as unsigned integers. -/
def execBgeu (rj : GReg) (rd : GReg) (offs16 : BitVec 16) (s : State) : Host.Outcome State Fault Refusal :=
  .next (s.branchIf (!(s.reg rj).ult (s.reg rd)) offs16)

/-- B (R257): the target is pc plus the scaled offset. -/
def execB (offs26 : BitVec 26) (s : State) : Host.Outcome State Fault Refusal :=
  .next (s.jump (s.target offs26))

/-- BL (R258): as B, with pc + 4 in x[1]. -/
def execBl (offs26 : BitVec 26) (s : State) : Host.Outcome State Fault Refusal :=
  .next ((s.setReg 1#5 (s.pc + 4#32)).jump (s.target offs26))

/-- JIRL (R259): the target is the old x[rj] plus the scaled offset, pc + 4 goes to rd; a misaligned target is kept as it is (R260). -/
def execJirl (rd : GReg) (rj : GReg) (offs16 : BitVec 16) (s : State) : Host.Outcome State Fault Refusal :=
  .next ((s.setReg rd (s.pc + 4#32)).jump (s.reg rj + scaled offs16))

end Sys2Proof.Machine
end

