-- ==== Sys2Proof/Machine/Flags.lean ====
section
/-!
DEFINITION. The flags of the machine: the fields and views of FCSR0 (spec/10_state.md rules R34 to R37) and how an arithmetic
floating-point instruction updates them (spec/46_fp_arith.md rule R335). Integer instructions set no flags (R33).
A set of IEEE exceptions is five bits in the order of R35: I 0, U 1, O 2, Z 3, V 4.
-/
namespace Sys2Proof.Machine

/-- A set of IEEE exceptions (R332), in the order of the FCSR fields (R35). -/
abbrev FpFlags := BitVec 5

/-- No exception. -/
def flagsNone : FpFlags := 0#5
/-- Inexact. -/
def flagI : FpFlags := 0b00001#5
/-- Underflow. -/
def flagU : FpFlags := 0b00010#5
/-- Overflow. -/
def flagO : FpFlags := 0b00100#5
/-- Division by zero. -/
def flagZ : FpFlags := 0b01000#5
/-- Invalid operation. -/
def flagV : FpFlags := 0b10000#5

/-- fcsr0.Enables (R35). -/
def State.fpEnables (s : State) : FpFlags := s.fcsr0.extractLsb' 0 5
/-- fcsr0.RM (R35). -/
def State.fpRm (s : State) : BitVec 2 := s.fcsr0.extractLsb' 8 2
/-- fcsr0.Flags (R35). -/
def State.fpFlags (s : State) : FpFlags := s.fcsr0.extractLsb' 16 5
/-- fcsr0.Cause (R35). -/
def State.fpCause (s : State) : FpFlags := s.fcsr0.extractLsb' 24 5

/-- `fcsr0.Cause <- E`. -/
def State.setFpCause (s : State) (e : FpFlags) : State := { s with fcsr0 := setField s.fcsr0 24 e }
/-- `fcsr0.Flags <- fcsr0.Flags | E`. -/
def State.addFpFlags (s : State) (e : FpFlags) : State := { s with fcsr0 := setField s.fcsr0 16 (s.fpFlags ||| e) }

/-- The bits of fcsr0 that fcsr number n = 0 .. 3 shows and writes (R36, R427, R428). -/
def fcsrMask (n : BitVec 5) : Option Word :=
  match n.toNat with
  | 0 => some 0x1F1F031F#32
  | 1 => some 0x0000001F#32
  | 2 => some 0x1F1F0000#32
  | 3 => some 0x00000300#32
  | _ => none

/-- The exceptions an instruction commits: with `FP.underflowTrapExact` and Enables.U, a tiny exact result counts as U
(R335). -/
def State.fpExceptions (s : State) (e : FpFlags) (tinyExact : Bool) : FpFlags :=
  if tinyExact && s.fpEnables.getLsbD 1 && Config.underflowTrapExact then e ||| flagU else e

/-- `fp_commit(v, E, write)` after the FPD check (R335): Cause becomes E; when an enabled exception is in E the exception FPE is
taken with destination and Flags unchanged; otherwise Flags accumulate E and `write` writes the destination. -/
def State.fpCommit (s : State) (e : FpFlags) (tinyExact : Bool) (write : State → State) :
    Host.Outcome State Fault Refusal :=
  let e := s.fpExceptions e tinyExact
  let t := s.setFpCause e
  if e &&& s.fpEnables = flagsNone then .next (write (t.addFpFlags e)).advance
  else .next (t.trapEntry .fpe 0#32)

/-- An arithmetic floating-point instruction: FPD when the unit is disabled (R335), else its commit. -/
def State.fpArith (s : State) (r : Host.Outcome State Fault Refusal) : Host.Outcome State Fault Refusal :=
  if s.fpe then r else .next (s.trapEntry .fpd 0#32)

end Sys2Proof.Machine
end

