-- ==== Sys2Proof/Machine/Float.lean ====
section
/-!
DEFINITION. IEEE 754-2008 binary32 and binary64 arithmetic as spec/46_fp_arith.md rules R330 to R334 and
spec/47_fp_cmp_cvt.md take it: operands become exact numbers, an operation is computed exactly on naturals and rounded once,
and what IEEE leaves open is a field of Sys2Proof/Config.lean. Bit patterns are naturals here; the meanings give them widths.
-/
namespace Sys2Proof.Machine

/-- A binary format: `prec` significand bits (the hidden one included) and `ebits` exponent bits (R330). -/
structure FpFmt where
  prec : Nat
  ebits : Nat
  deriving DecidableEq, Repr

/-- binary32 (R330). -/
def FpFmt.b32 : FpFmt := { prec := 24, ebits := 8 }
/-- binary64 (R330). -/
def FpFmt.b64 : FpFmt := { prec := 53, ebits := 11 }

/-- The exponent bias (R330). -/
def FpFmt.bias (F : FpFmt) : Nat := 2 ^ (F.ebits - 1) - 1
/-- The exponent of the smallest normal number, 1 - bias. -/
def FpFmt.emin (F : FpFmt) : Int := 1 - (F.bias : Int)
/-- The exponent of the last place of subnormal numbers. -/
def FpFmt.qmin (F : FpFmt) : Int := F.emin - ((F.prec : Int) - 1)
/-- The bit pattern of +infinity (R330). -/
def FpFmt.infBits (F : FpFmt) : Nat := (2 ^ F.ebits - 1) * 2 ^ (F.prec - 1)
/-- The sign bit (R330). -/
def FpFmt.signBit (F : FpFmt) : Nat := 2 ^ (F.prec + F.ebits - 1)
/-- A magnitude with a sign. -/
def FpFmt.withSign (F : FpFmt) (neg : Bool) (mag : Nat) : Nat := if neg then F.signBit + mag else mag

/-- A datum (R330): a NaN, an infinity, or the finite number (-1)^neg * m * 2^q. -/
inductive FpVal where
  | nan (signaling : Bool)
  | inf (neg : Bool)
  | fin (neg : Bool) (m : Nat) (q : Int)
  deriving DecidableEq, Repr

/-- The datum a bit pattern stands for (R330). -/
def FpFmt.unpack (F : FpFmt) (b : Nat) : FpVal :=
  let frac := b % 2 ^ (F.prec - 1)
  let ex := b / 2 ^ (F.prec - 1) % 2 ^ F.ebits
  let neg := decide (b / F.signBit % 2 = 1)
  if ex = 2 ^ F.ebits - 1 then
    if frac = 0 then .inf neg else .nan (frac < 2 ^ (F.prec - 2))
  else if ex = 0 then .fin neg frac F.qmin
  else .fin neg (frac + 2 ^ (F.prec - 1)) ((ex : Int) - 1 + F.qmin)

/-- Is it a NaN? -/
def FpVal.isNan : FpVal → Bool
  | .nan _ => true
  | _ => false
/-- Is it a signaling NaN? -/
def FpVal.isSnan : FpVal → Bool
  | .nan sig => sig
  | _ => false
/-- Is it a zero? -/
def FpVal.isZero : FpVal → Bool
  | .fin _ m _ => m == 0
  | _ => false
/-- Is it an infinity? -/
def FpVal.isInf : FpVal → Bool
  | .inf _ => true
  | _ => false
/-- The magnitude: the sign dropped. -/
def FpVal.abs : FpVal → FpVal
  | .nan sig => .nan sig
  | .inf _ => .inf false
  | .fin _ m q => .fin false m q

/-- The rounding directions, by the numbers of RM (R34, R331). -/
inductive Rounding where
  | nearestEven | towardZero | up | down
  deriving DecidableEq, Repr

/-- The direction of an RM value (R34). -/
def Rounding.ofRm (rm : BitVec 2) : Rounding :=
  match rm.toNat with
  | 0 => .nearestEven
  | 1 => .towardZero
  | 2 => .up
  | _ => .down

/-- Is the magnitude `n + r / d` (with `r < d`) rounded up to `n + 1` (R331)? -/
def Rounding.increments (rd : Rounding) (neg : Bool) (n r d : Nat) : Bool :=
  match rd with
  | .nearestEven => decide (d < 2 * r) || (decide (2 * r = d) && n % 2 == 1)
  | .towardZero => false
  | .up => !neg && r != 0
  | .down => neg && r != 0

/-- `m / 2^sh` rounded to an integer magnitude. -/
def Rounding.shiftRound (rd : Rounding) (neg : Bool) (m sh : Nat) : Nat :=
  m / 2 ^ sh + (if rd.increments neg (m / 2 ^ sh) (m % 2 ^ sh) (2 ^ sh) then 1 else 0)

/-- The result of an operation: a number with its exceptions, and whether it is tiny and exact; the default NaN of an invalid
operation without a NaN operand; or the NaN that `FP.nanResult` gives (R332, R333). -/
inductive FpOut where
  | num (bits : Nat) (flags : FpFlags) (tinyExact : Bool)
  | defaultNaN (flags : FpFlags)
  | nanOf (flags : FpFlags)
  deriving DecidableEq, Repr

/-- The exceptions E of a result (R332). -/
def FpOut.flags : FpOut → FpFlags
  | .num _ e _ => e
  | .defaultNaN e => e
  | .nanOf e => e
/-- Is the result tiny and exact (R335)? -/
def FpOut.tinyExact : FpOut → Bool
  | .num _ _ t => t
  | _ => false
/-- The same result with these exceptions besides its own. -/
def FpOut.withFlags (e : FpFlags) : FpOut → FpOut
  | .num b e' t => .num b (e ||| e') t
  | .defaultNaN e' => .defaultNaN (e ||| e')
  | .nanOf e' => .nanOf (e ||| e')

/-- An exact result. -/
def FpOut.exact (bits : Nat) : FpOut := .num bits flagsNone false
/-- V with no NaN operand (R332). -/
def FpOut.invalid : FpOut := .defaultNaN flagV
/-- The result when an operand is a NaN: V when one is signaling (R333). -/
def FpOut.ofNaNs (signaling : Bool) : FpOut := .nanOf (if signaling then flagV else flagsNone)

/-- The result of an overflow, by direction and sign (R332). -/
def FpFmt.overflow (F : FpFmt) (rd : Rounding) (neg : Bool) : FpOut :=
  let toInf := match rd with
    | .nearestEven => true
    | .towardZero => false
    | .up => !neg
    | .down => neg
  .num (F.withSign neg (if toInf then F.infBits else F.infBits - 1)) (flagO ||| flagI) false

/-- The last-place exponent to which a number with leading bit at exponent `e` is rounded: `prec` bits, not below the
subnormals. -/
def FpFmt.quantum (F : FpFmt) (e : Int) : Int := max (e - ((F.prec : Int) - 1)) F.qmin

/-- Round the exact number (-1)^neg * m * 2^q once to the format, with its exceptions (R331, R332). The encoding of a magnitude
n * 2^qt is `(qt - qmin) * 2^(prec-1) + n`: a carry out of the significand moves into the exponent field. -/
def FpFmt.round (F : FpFmt) (rd : Rounding) (neg : Bool) (m : Nat) (q : Int) : FpOut :=
  if m = 0 then .exact (F.withSign neg 0)
  else
    let e := q + (m.log2 : Int)
    let qt := F.quantum e
    let sh := (qt - q).toNat
    let n := if qt ≤ q then m * 2 ^ (q - qt).toNat else rd.shiftRound neg m sh
    let inexact := decide (q < qt) && m % 2 ^ sh != 0
    let mag := (qt - F.qmin).toNat * 2 ^ (F.prec - 1) + n
    if F.infBits ≤ mag then F.overflow rd neg
    else
      let tinyBefore := decide (e < F.emin)
      let sh' := (e - ((F.prec : Int) - 1) - q).toNat
      let tinyAfter := tinyBefore && (decide (e < F.emin - 1) || rd.shiftRound neg m sh' < 2 ^ F.prec)
      let underflow := inexact && (tinyAfter || (tinyBefore && !Config.tininessAfter))
      .num (F.withSign neg mag)
        ((if inexact then flagI else flagsNone) ||| (if underflow then flagU else flagsNone))
        (tinyBefore && !inexact)

/-- The exact sum of two finite numbers, rounded; an exact zero of unlike signs is +0, or -0 when rounding down (R340). -/
def FpFmt.sum (F : FpFmt) (rd : Rounding) (s1 : Bool) (m1 : Nat) (q1 : Int) (s2 : Bool) (m2 : Nat) (q2 : Int) : FpOut :=
  let q := min q1 q2
  let a : Int := (if s1 then -1 else 1) * ((m1 * 2 ^ (q1 - q).toNat : Nat) : Int)
  let b : Int := (if s2 then -1 else 1) * ((m2 * 2 ^ (q2 - q).toNat : Nat) : Int)
  let t := a + b
  if t = 0 then .exact (F.withSign (if s1 = s2 then s1 else decide (rd = .down)) 0)
  else F.round rd (decide (t < 0)) t.natAbs q

/-- Addition (R332, R340). -/
def FpFmt.add (F : FpFmt) (rd : Rounding) (a b : FpVal) : FpOut :=
  match a, b with
  | .nan s, b => .ofNaNs (s || b.isSnan)
  | _, .nan s => .ofNaNs s
  | .inf s, .inf t => if s = t then .exact (F.withSign s F.infBits) else .invalid
  | .inf s, .fin _ _ _ => .exact (F.withSign s F.infBits)
  | .fin _ _ _, .inf t => .exact (F.withSign t F.infBits)
  | .fin s1 m1 q1, .fin s2 m2 q2 => F.sum rd s1 m1 q1 s2 m2 q2

/-- The datum with its sign bit inverted. -/
def FpVal.neg : FpVal → FpVal
  | .nan s => .nan s
  | .inf s => .inf !s
  | .fin s m q => .fin (!s) m q

/-- Subtraction (R342). -/
def FpFmt.sub (F : FpFmt) (rd : Rounding) (a b : FpVal) : FpOut := F.add rd a b.neg

/-- Multiplication (R344). -/
def FpFmt.mul (F : FpFmt) (rd : Rounding) (a b : FpVal) : FpOut :=
  match a, b with
  | .nan s, b => .ofNaNs (s || b.isSnan)
  | _, .nan s => .ofNaNs s
  | .inf s, .inf t => .exact (F.withSign (s != t) F.infBits)
  | .inf s, .fin t m _ => if m = 0 then .invalid else .exact (F.withSign (s != t) F.infBits)
  | .fin s m _, .inf t => if m = 0 then .invalid else .exact (F.withSign (s != t) F.infBits)
  | .fin s1 m1 q1, .fin s2 m2 q2 => F.round rd (s1 != s2) (m1 * m2) (q1 + q2)

/-- A quotient of positive numbers with a last bit that stands for the rest: more than `prec` bits of it are exact, so rounding
it rounds the quotient. -/
def FpFmt.quotient (F : FpFmt) (m1 m2 : Nat) : Nat × Nat :=
  let k := F.prec + 3 + m2.log2
  let n := m1 * 2 ^ k
  (2 * (n / m2) + (if n % m2 = 0 then 0 else 1), k)

/-- Division (R332, R346). -/
def FpFmt.div (F : FpFmt) (rd : Rounding) (a b : FpVal) : FpOut :=
  match a, b with
  | .nan s, b => .ofNaNs (s || b.isSnan)
  | _, .nan s => .ofNaNs s
  | .inf _, .inf _ => .invalid
  | .inf s, .fin t _ _ => .exact (F.withSign (s != t) F.infBits)
  | .fin s _ _, .inf t => .exact (F.withSign (s != t) 0)
  | .fin s1 m1 q1, .fin s2 m2 q2 =>
    if m2 = 0 then
      if m1 = 0 then .invalid else .num (F.withSign (s1 != s2) F.infBits) flagZ false
    else
      let qk := F.quotient m1 m2
      F.round rd (s1 != s2) qk.1 (q1 - q2 - (qk.2 : Int) - 1)

/-- Fused multiply-add, rounded once (R332, R333(c), R348). -/
def FpFmt.fma (F : FpFmt) (rd : Rounding) (a b c : FpVal) : FpOut :=
  if a.isSnan || b.isSnan || c.isSnan then .ofNaNs true
  else if a.isNan || b.isNan then .ofNaNs false
  else if (a.isZero && b.isInf) || (a.isInf && b.isZero) then
    if c.isNan then .ofNaNs Config.fmaInvalidWithQNaNAddend else .invalid
  else
    match a, b, c with
    | _, _, .nan _ => .ofNaNs false
    | .fin s1 m1 q1, .fin s2 m2 q2, .fin s3 m3 q3 => F.sum rd (s1 != s2) (m1 * m2) (q1 + q2) s3 m3 q3
    | .fin _ _ _, .fin _ _ _, .inf t => .exact (F.withSign t F.infBits)
    | .inf s, .fin t _ _, c => F.add rd (.inf (s != t)) c
    | .fin s _ _, .inf t, c => F.add rd (.inf (s != t)) c
    | .inf s, .inf t, c => F.add rd (.inf (s != t)) c
    | _, _, _ => .ofNaNs false

/-- The result with its sign inverted, for a number (R352). -/
def FpFmt.negate (F : FpFmt) : FpOut → FpOut
  | .num b e t => .num (b ^^^ F.signBit) e t
  | .defaultNaN e => .nanOf e
  | .nanOf e => .nanOf e

/-- One bit after another of an integer square root. -/
def isqrtBits (n : Nat) : Nat → Nat → Nat
  | 0, r => r
  | i + 1, r => isqrtBits n i (if (r + 2 ^ i) * (r + 2 ^ i) ≤ n then r + 2 ^ i else r)

/-- The integer square root: the greatest r with r * r ≤ n. -/
def isqrt (n : Nat) : Nat := isqrtBits n (n.log2 / 2 + 1) 0

/-- Square root (R332, R368). -/
def FpFmt.sqrt (F : FpFmt) (rd : Rounding) (a : FpVal) : FpOut :=
  match a with
  | .nan s => .ofNaNs s
  | .inf s => if s then .invalid else .exact F.infBits
  | .fin s m q =>
    if m = 0 then .exact (F.withSign s 0)
    else if s then .invalid
    else
      let k := 2 * F.prec + 4 + (q % 2).toNat
      let n := m * 2 ^ k
      let r := isqrt n
      F.round rd false (2 * r + (if r * r = n then 0 else 1)) ((q - (k : Int)) / 2 - 1)

/-- Reciprocal square root rounded once, IEEE `rSqrt` (R372). -/
def FpFmt.rsqrtOnce (F : FpFmt) (rd : Rounding) (a : FpVal) : FpOut :=
  match a with
  | .nan s => .ofNaNs s
  | .inf s => if s then .invalid else .exact 0
  | .fin s m q =>
    if m = 0 then .num (F.withSign s F.infBits) flagZ false
    else if s then .invalid
    else
      let m' := if q % 2 = 0 then m else 2 * m
      let q' := if q % 2 = 0 then q else q - 1
      let k := F.prec + 5 + m'.log2 / 2
      let r := isqrt (2 ^ (2 * k) / m')
      F.round rd false (2 * r + (if r * r * m' = 2 ^ (2 * k) then 0 else 1)) (-(q' / 2) - (k : Int) - 1)

/-- The number 1.0. -/
def FpVal.one : FpVal := .fin false 1 0

/-- Reciprocal square root rounded twice: `division(1.0, squareRoot(x))` (R372). A NaN of the square root is an operand of the
division, so what comes out is `FP.nanResult`'s; that it is taken as that of FRSQRT and its operand, not of the division, is
DESIGN CHOICE, safe, log 12. -/
def FpFmt.rsqrtTwice (F : FpFmt) (rd : Rounding) (a : FpVal) : FpOut :=
  match F.sqrt rd a with
  | .num b e _ => (F.div rd .one (F.unpack b)).withFlags e
  | .defaultNaN e => .nanOf e
  | .nanOf e => .nanOf e

/-- FRSQRT (R372): the two readings, `FP.rsqrtDouble` deciding where they differ. -/
def FpFmt.rsqrt (F : FpFmt) (rd : Rounding) (a : FpVal) : FpOut :=
  if F.rsqrtOnce rd a = F.rsqrtTwice rd a then F.rsqrtOnce rd a
  else if Config.rsqrtDouble then F.rsqrtTwice rd a else F.rsqrtOnce rd a

/-- The relations of R381. -/
inductive FpRel where
  | un | lt | eq | gt
  deriving DecidableEq, Repr

/-- The relation of two integers. -/
def FpRel.ofInts (a b : Int) : FpRel := if a < b then .lt else if a = b then .eq else .gt

/-- The relation of two data, by value (R381). -/
def FpVal.relation (a b : FpVal) : FpRel :=
  match a, b with
  | .nan _, _ => .un
  | _, .nan _ => .un
  | .inf s, .inf t => .ofInts (if s then -1 else 1) (if t then -1 else 1)
  | .inf s, .fin _ _ _ => if s then .lt else .gt
  | .fin _ _ _, .inf t => if t then .gt else .lt
  | .fin s1 m1 q1, .fin s2 m2 q2 =>
    .ofInts ((if s1 then -1 else 1) * ((m1 * 2 ^ (q1 - min q1 q2).toNat : Nat) : Int))
      ((if s2 then -1 else 1) * ((m2 * 2 ^ (q2 - min q1 q2).toNat : Nat) : Int))

/-- The operand that FMAX (`gt`) or FMIN (`lt`) selects, as a bit pattern; operands that are equal but not the same (+0 and -0)
leave the choice to `pick` (spec/46_fp_arith.md section 4). -/
def selectNum (x y : Nat) (rel want : FpRel) (pick : Bool) : Nat :=
  if rel = .eq then (if x = y then x else if pick then x else y)
  else if rel = want then x else y

/-- maxNum (`want` = gt) and minNum (`want` = lt) of two bit patterns (R356, R358). -/
def FpFmt.maxMin (F : FpFmt) (want : FpRel) (pick : Bool) (x y : Nat) : FpOut :=
  let a := F.unpack x
  let b := F.unpack y
  if a.isSnan || b.isSnan then .ofNaNs true
  else if a.isNan && b.isNan then .ofNaNs false
  else if a.isNan then .exact y
  else if b.isNan then .exact x
  else .exact (selectNum x y (a.relation b) want pick)

/-- maxNumMag and minNumMag: by magnitude, and by maxNum or minNum when the magnitudes are equal (R360, R362). -/
def FpFmt.maxMinMag (F : FpFmt) (want : FpRel) (pick : Bool) (x y : Nat) : FpOut :=
  let rel := (F.unpack x).abs.relation (F.unpack y).abs
  if rel = .un ∨ rel = .eq then F.maxMin want pick x y
  else .exact (if rel = want then x else y)

/-- convertFormat to `F` of a datum of another format (R383, R384). -/
def FpFmt.convert (F : FpFmt) (rd : Rounding) (a : FpVal) : FpOut :=
  match a with
  | .nan s => .ofNaNs s
  | .inf s => .exact (F.withSign s F.infBits)
  | .fin s m q => F.round rd s m q

/-- convertFromInt (R385). -/
def FpFmt.ofInt (F : FpFmt) (rd : Rounding) (n : Int) : FpOut := F.round rd (decide (n < 0)) n.natAbs 0

/-- convertToSint32 (R397): the integer and its exceptions, or none where V is raised. -/
def FpVal.toSint32 (rd : Rounding) (a : FpVal) : Option (Word × FpFlags) :=
  match a with
  | .nan _ => none
  | .inf _ => none
  | .fin s m q =>
    let sh := (-q).toNat
    let n := if 0 ≤ q then m * 2 ^ q.toNat else rd.shiftRound s m sh
    let inexact := decide (q < 0) && m % 2 ^ sh != 0
    let r : Int := if s then -(n : Int) else n
    if r < -(2 ^ 31) ∨ 2 ^ 31 - 1 < r then none
    else some (BitVec.ofInt 32 r, if inexact then flagI else flagsNone)

/-- The ten classes of FCLASS, one bit each (R376). -/
def FpFmt.classBit (F : FpFmt) (b : Nat) : Nat :=
  match F.unpack b with
  | .nan sig => if sig then 0 else 1
  | .inf neg => if neg then 2 else 6
  | .fin neg m _ =>
    if m = 0 then (if neg then 5 else 9)
    else if m < 2 ^ (F.prec - 1) then (if neg then 4 else 8)
    else (if neg then 3 else 7)

/-- Is the comparison true under a condition (R380, R381)? -/
def condHolds (cond : BitVec 5) (r : FpRel) : Bool :=
  match r with
  | .lt => cond.getLsbD 1 || cond.getLsbD 4
  | .eq => cond.getLsbD 2
  | .un => cond.getLsbD 3
  | .gt => cond.getLsbD 4

/-- The exceptions of a comparison (R381). -/
def cmpFlags (cond : BitVec 5) (a b : FpVal) : FpFlags :=
  if a.isSnan || b.isSnan || (cond.getLsbD 0 && decide (a.relation b = .un)) then flagV else flagsNone

/-- A binary32 NaN made quiet: exponent all ones, top fraction bit 1; sign and payload as given (R330, R333). -/
def quiet32 (w : Word) : Word := w ||| 0x7FC00000#32
/-- A binary64 NaN made quiet. -/
def quiet64 (w : DWord) : DWord := w ||| 0x7FF8000000000000#64

/-- The binary32 value of a result (R333, R334). -/
def FpOut.word (op : FpOp) (args : List DWord) : FpOut → Word
  | .num b _ _ => BitVec.ofNat 32 b
  | .defaultNaN _ => quiet32 Config.defaultNaN32
  | .nanOf _ => quiet32 (Config.nanResult32 op args)

/-- The binary64 value of a result (R333, R334). -/
def FpOut.dword (op : FpOp) (args : List DWord) : FpOut → DWord
  | .num b _ _ => BitVec.ofNat 64 b
  | .defaultNaN _ => quiet64 Config.defaultNaN64
  | .nanOf _ => quiet64 (Config.nanResult64 op args)

/-- The binary32 datum of a word. -/
def fp32 (w : Word) : FpVal := FpFmt.b32.unpack w.toNat
/-- The binary64 datum of a doubleword. -/
def fp64 (w : DWord) : FpVal := FpFmt.b64.unpack w.toNat

/-- The rounding direction of fcsr0.RM (R331). -/
def State.rounding (s : State) : Rounding := Rounding.ofRm s.fpRm

/-- An arithmetic instruction with a binary32 result: FPD check, commit, bits 31:0 of fd written (R335, R31). -/
def State.arithS (s : State) (fd : FReg) (op : FpOp) (args : List DWord) (r : FpOut) : Host.Outcome State Fault Refusal :=
  s.fpArith (s.fpCommit r.flags r.tinyExact fun t => t.setFregLow fd (r.word op args))

/-- An arithmetic instruction with a binary64 result (R335). -/
def State.arithD (s : State) (fd : FReg) (op : FpOp) (args : List DWord) (r : FpOut) : Host.Outcome State Fault Refusal :=
  s.fpArith (s.fpCommit r.flags r.tinyExact fun t => t.setFreg fd (r.dword op args))

/-- A comparison: FPD check, commit, the condition flag written (R381). -/
def State.compare (s : State) (cond : BitVec 5) (cd : CReg) (a b : FpVal) : Host.Outcome State Fault Refusal :=
  s.fpArith (s.fpCommit (cmpFlags cond a b) false fun t => t.setCflag cd (condHolds cond (a.relation b)))

/-- A conversion to a 32-bit integer in bits 31:0 of fd (R397); `invalid` is what `FP.ftintInvalid` gives. -/
def State.toInt (s : State) (fd : FReg) (rd : Rounding) (a : FpVal) (invalid : Word) : Host.Outcome State Fault Refusal :=
  match a.toSint32 rd with
  | some (v, e) => s.fpArith (s.fpCommit e false fun t => t.setFregLow fd v)
  | none => s.fpArith (s.fpCommit flagV false fun t => t.setFregLow fd invalid)

end Sys2Proof.Machine
end

