-- ==== Sys2Proof/Machine/FpArith.lean ====
section
/-!
DEFINITION. Floating-point arithmetic (spec/46_fp_arith.md).
-/
namespace Sys2Proof.Machine

/-- FMAX, FMIN, FMAXA, FMINA in binary32: as an arithmetic instruction, with the choice between +0 and -0 drawn (section 4). -/
def State.selectS (s : State) (fd : FReg) (op : FpOp) (args : List DWord) (r : FpOut) : Host.Outcome State Fault Refusal :=
  s.fpArith (s.fpCommit r.flags r.tinyExact fun t => { t with draws := t.draws + 1 }.setFregLow fd (r.word op args))

/-- The same in binary64. -/
def State.selectD (s : State) (fd : FReg) (op : FpOp) (args : List DWord) (r : FpOut) : Host.Outcome State Fault Refusal :=
  s.fpArith (s.fpCommit r.flags r.tinyExact fun t => { t with draws := t.draws + 1 }.setFreg fd (r.dword op args))

/-- FADD.S (R340): addition. -/
def execFaddS (fd : FReg) (fj : FReg) (fk : FReg) (s : State) : Host.Outcome State Fault Refusal :=
  s.arithS fd .add [(s.fregLow fj).setWidth 64, (s.fregLow fk).setWidth 64] (FpFmt.b32.add s.rounding (fp32 (s.fregLow fj)) (fp32 (s.fregLow fk)))

/-- FADD.D (R341): addition. -/
def execFaddD (fd : FReg) (fj : FReg) (fk : FReg) (s : State) : Host.Outcome State Fault Refusal :=
  s.arithD fd .add [s.freg fj, s.freg fk] (FpFmt.b64.add s.rounding (fp64 (s.freg fj)) (fp64 (s.freg fk)))

/-- FSUB.S (R342): fj minus fk. -/
def execFsubS (fd : FReg) (fj : FReg) (fk : FReg) (s : State) : Host.Outcome State Fault Refusal :=
  s.arithS fd .sub [(s.fregLow fj).setWidth 64, (s.fregLow fk).setWidth 64] (FpFmt.b32.sub s.rounding (fp32 (s.fregLow fj)) (fp32 (s.fregLow fk)))

/-- FSUB.D (R343): fj minus fk. -/
def execFsubD (fd : FReg) (fj : FReg) (fk : FReg) (s : State) : Host.Outcome State Fault Refusal :=
  s.arithD fd .sub [s.freg fj, s.freg fk] (FpFmt.b64.sub s.rounding (fp64 (s.freg fj)) (fp64 (s.freg fk)))

/-- FMUL.S (R344): multiplication. -/
def execFmulS (fd : FReg) (fj : FReg) (fk : FReg) (s : State) : Host.Outcome State Fault Refusal :=
  s.arithS fd .mul [(s.fregLow fj).setWidth 64, (s.fregLow fk).setWidth 64] (FpFmt.b32.mul s.rounding (fp32 (s.fregLow fj)) (fp32 (s.fregLow fk)))

/-- FMUL.D (R345): multiplication. -/
def execFmulD (fd : FReg) (fj : FReg) (fk : FReg) (s : State) : Host.Outcome State Fault Refusal :=
  s.arithD fd .mul [s.freg fj, s.freg fk] (FpFmt.b64.mul s.rounding (fp64 (s.freg fj)) (fp64 (s.freg fk)))

/-- FDIV.S (R346): fj divided by fk. -/
def execFdivS (fd : FReg) (fj : FReg) (fk : FReg) (s : State) : Host.Outcome State Fault Refusal :=
  s.arithS fd .div [(s.fregLow fj).setWidth 64, (s.fregLow fk).setWidth 64] (FpFmt.b32.div s.rounding (fp32 (s.fregLow fj)) (fp32 (s.fregLow fk)))

/-- FDIV.D (R347): fj divided by fk. -/
def execFdivD (fd : FReg) (fj : FReg) (fk : FReg) (s : State) : Host.Outcome State Fault Refusal :=
  s.arithD fd .div [s.freg fj, s.freg fk] (FpFmt.b64.div s.rounding (fp64 (s.freg fj)) (fp64 (s.freg fk)))

/-- FMADD.S (R348): fj times fk plus fa, rounded once. -/
def execFmaddS (fd : FReg) (fj : FReg) (fk : FReg) (fa : FReg) (s : State) : Host.Outcome State Fault Refusal :=
  s.arithS fd .fma [(s.fregLow fj).setWidth 64, (s.fregLow fk).setWidth 64, (s.fregLow fa).setWidth 64]
    (FpFmt.b32.fma s.rounding (fp32 (s.fregLow fj)) (fp32 (s.fregLow fk)) (fp32 (s.fregLow fa)))

/-- FMADD.D (R349): fj times fk plus fa, rounded once. -/
def execFmaddD (fd : FReg) (fj : FReg) (fk : FReg) (fa : FReg) (s : State) : Host.Outcome State Fault Refusal :=
  s.arithD fd .fma [(s.freg fj), (s.freg fk), (s.freg fa)]
    (FpFmt.b64.fma s.rounding (fp64 (s.freg fj)) (fp64 (s.freg fk)) (fp64 (s.freg fa)))

/-- FMSUB.S (R350): fj times fk minus fa, rounded once. -/
def execFmsubS (fd : FReg) (fj : FReg) (fk : FReg) (fa : FReg) (s : State) : Host.Outcome State Fault Refusal :=
  s.arithS fd .fma [(s.fregLow fj).setWidth 64, (s.fregLow fk).setWidth 64, (s.fregLow fa ^^^ 0x80000000#32).setWidth 64]
    (FpFmt.b32.fma s.rounding (fp32 (s.fregLow fj)) (fp32 (s.fregLow fk)) (fp32 (s.fregLow fa ^^^ 0x80000000#32)))

/-- FMSUB.D (R351): fj times fk minus fa, rounded once. -/
def execFmsubD (fd : FReg) (fj : FReg) (fk : FReg) (fa : FReg) (s : State) : Host.Outcome State Fault Refusal :=
  s.arithD fd .fma [(s.freg fj), (s.freg fk), (s.freg fa ^^^ 0x8000000000000000#64)]
    (FpFmt.b64.fma s.rounding (fp64 (s.freg fj)) (fp64 (s.freg fk)) (fp64 (s.freg fa ^^^ 0x8000000000000000#64)))

/-- FNMADD.S (R352): the rounded fj times fk plus fa, negated. -/
def execFnmaddS (fd : FReg) (fj : FReg) (fk : FReg) (fa : FReg) (s : State) : Host.Outcome State Fault Refusal :=
  s.arithS fd .fnmadd [(s.fregLow fj).setWidth 64, (s.fregLow fk).setWidth 64, (s.fregLow fa).setWidth 64]
    (FpFmt.b32.negate (FpFmt.b32.fma s.rounding (fp32 (s.fregLow fj)) (fp32 (s.fregLow fk)) (fp32 (s.fregLow fa))))

/-- FNMADD.D (R353): the rounded fj times fk plus fa, negated. -/
def execFnmaddD (fd : FReg) (fj : FReg) (fk : FReg) (fa : FReg) (s : State) : Host.Outcome State Fault Refusal :=
  s.arithD fd .fnmadd [(s.freg fj), (s.freg fk), (s.freg fa)]
    (FpFmt.b64.negate (FpFmt.b64.fma s.rounding (fp64 (s.freg fj)) (fp64 (s.freg fk)) (fp64 (s.freg fa))))

/-- FNMSUB.S (R354): the rounded fj times fk minus fa, negated. -/
def execFnmsubS (fd : FReg) (fj : FReg) (fk : FReg) (fa : FReg) (s : State) : Host.Outcome State Fault Refusal :=
  s.arithS fd .fnmsub [(s.fregLow fj).setWidth 64, (s.fregLow fk).setWidth 64, (s.fregLow fa ^^^ 0x80000000#32).setWidth 64]
    (FpFmt.b32.negate (FpFmt.b32.fma s.rounding (fp32 (s.fregLow fj)) (fp32 (s.fregLow fk)) (fp32 (s.fregLow fa ^^^ 0x80000000#32))))

/-- FNMSUB.D (R355): the rounded fj times fk minus fa, negated. -/
def execFnmsubD (fd : FReg) (fj : FReg) (fk : FReg) (fa : FReg) (s : State) : Host.Outcome State Fault Refusal :=
  s.arithD fd .fnmsub [(s.freg fj), (s.freg fk), (s.freg fa ^^^ 0x8000000000000000#64)]
    (FpFmt.b64.negate (FpFmt.b64.fma s.rounding (fp64 (s.freg fj)) (fp64 (s.freg fk)) (fp64 (s.freg fa ^^^ 0x8000000000000000#64))))

/-- FMAX.S (R356): the larger operand, unchanged; of +0 and -0 a free one. -/
def execFmaxS (fd : FReg) (fj : FReg) (fk : FReg) (s : State) : Host.Outcome State Fault Refusal :=
  s.selectS fd .maxNum [(s.fregLow fj).setWidth 64, (s.fregLow fk).setWidth 64]
    (FpFmt.b32.maxMin .gt (Config.freeZeroPick s.draws) (s.fregLow fj).toNat (s.fregLow fk).toNat)

/-- FMAX.D (R357): the larger operand, unchanged; of +0 and -0 a free one. -/
def execFmaxD (fd : FReg) (fj : FReg) (fk : FReg) (s : State) : Host.Outcome State Fault Refusal :=
  s.selectD fd .maxNum [(s.freg fj), (s.freg fk)]
    (FpFmt.b64.maxMin .gt (Config.freeZeroPick s.draws) (s.freg fj).toNat (s.freg fk).toNat)

/-- FMIN.S (R358): the smaller operand, unchanged; of +0 and -0 a free one. -/
def execFminS (fd : FReg) (fj : FReg) (fk : FReg) (s : State) : Host.Outcome State Fault Refusal :=
  s.selectS fd .minNum [(s.fregLow fj).setWidth 64, (s.fregLow fk).setWidth 64]
    (FpFmt.b32.maxMin .lt (Config.freeZeroPick s.draws) (s.fregLow fj).toNat (s.fregLow fk).toNat)

/-- FMIN.D (R359): the smaller operand, unchanged; of +0 and -0 a free one. -/
def execFminD (fd : FReg) (fj : FReg) (fk : FReg) (s : State) : Host.Outcome State Fault Refusal :=
  s.selectD fd .minNum [(s.freg fj), (s.freg fk)]
    (FpFmt.b64.maxMin .lt (Config.freeZeroPick s.draws) (s.freg fj).toNat (s.freg fk).toNat)

/-- FMAXA.S (R360): the operand of larger magnitude, unchanged; of +0 and -0 a free one. -/
def execFmaxaS (fd : FReg) (fj : FReg) (fk : FReg) (s : State) : Host.Outcome State Fault Refusal :=
  s.selectS fd .maxNumMag [(s.fregLow fj).setWidth 64, (s.fregLow fk).setWidth 64]
    (FpFmt.b32.maxMinMag .gt (Config.freeZeroPick s.draws) (s.fregLow fj).toNat (s.fregLow fk).toNat)

/-- FMAXA.D (R361): the operand of larger magnitude, unchanged; of +0 and -0 a free one. -/
def execFmaxaD (fd : FReg) (fj : FReg) (fk : FReg) (s : State) : Host.Outcome State Fault Refusal :=
  s.selectD fd .maxNumMag [(s.freg fj), (s.freg fk)]
    (FpFmt.b64.maxMinMag .gt (Config.freeZeroPick s.draws) (s.freg fj).toNat (s.freg fk).toNat)

/-- FMINA.S (R362): the operand of smaller magnitude, unchanged; of +0 and -0 a free one. -/
def execFminaS (fd : FReg) (fj : FReg) (fk : FReg) (s : State) : Host.Outcome State Fault Refusal :=
  s.selectS fd .minNumMag [(s.fregLow fj).setWidth 64, (s.fregLow fk).setWidth 64]
    (FpFmt.b32.maxMinMag .lt (Config.freeZeroPick s.draws) (s.fregLow fj).toNat (s.fregLow fk).toNat)

/-- FMINA.D (R363): the operand of smaller magnitude, unchanged; of +0 and -0 a free one. -/
def execFminaD (fd : FReg) (fj : FReg) (fk : FReg) (s : State) : Host.Outcome State Fault Refusal :=
  s.selectD fd .minNumMag [(s.freg fj), (s.freg fk)]
    (FpFmt.b64.maxMinMag .lt (Config.freeZeroPick s.draws) (s.freg fj).toNat (s.freg fk).toNat)

/-- FABS.S (R364): the sign bit cleared; non-arithmetic (R336). -/
def execFabsS (fd : FReg) (fj : FReg) (s : State) : Host.Outcome State Fault Refusal :=
  s.complete (s.fpOnly.bind fun _ => .ok (s.setFregLow fd (s.fregLow fj &&& 0x7FFFFFFF#32)).advance)

/-- FABS.D (R365): the sign bit cleared; non-arithmetic (R336). -/
def execFabsD (fd : FReg) (fj : FReg) (s : State) : Host.Outcome State Fault Refusal :=
  s.complete (s.fpOnly.bind fun _ => .ok (s.setFreg fd (s.freg fj &&& 0x7FFFFFFFFFFFFFFF#64)).advance)

/-- FNEG.S (R366): the sign bit inverted; non-arithmetic (R336). -/
def execFnegS (fd : FReg) (fj : FReg) (s : State) : Host.Outcome State Fault Refusal :=
  s.complete (s.fpOnly.bind fun _ => .ok (s.setFregLow fd (s.fregLow fj ^^^ 0x80000000#32)).advance)

/-- FNEG.D (R367): the sign bit inverted; non-arithmetic (R336). -/
def execFnegD (fd : FReg) (fj : FReg) (s : State) : Host.Outcome State Fault Refusal :=
  s.complete (s.fpOnly.bind fun _ => .ok (s.setFreg fd (s.freg fj ^^^ 0x8000000000000000#64)).advance)

/-- FSQRT.S (R368): square root. -/
def execFsqrtS (fd : FReg) (fj : FReg) (s : State) : Host.Outcome State Fault Refusal :=
  s.arithS fd .sqrt [(s.fregLow fj).setWidth 64] (FpFmt.b32.sqrt s.rounding (fp32 (s.fregLow fj)))

/-- FSQRT.D (R369): square root. -/
def execFsqrtD (fd : FReg) (fj : FReg) (s : State) : Host.Outcome State Fault Refusal :=
  s.arithD fd .sqrt [s.freg fj] (FpFmt.b64.sqrt s.rounding (fp64 (s.freg fj)))

/-- FRECIP.S (R370): `FP32_division(1.0, fj)`; a NaN is that of this division and its two operands. -/
def execFrecipS (fd : FReg) (fj : FReg) (s : State) : Host.Outcome State Fault Refusal :=
  s.arithS fd .div [0x3F800000#64, (s.fregLow fj).setWidth 64] (FpFmt.b32.div s.rounding .one (fp32 (s.fregLow fj)))

/-- FRECIP.D (R371): `FP64_division(1.0, fj)`; a NaN is that of this division and its two operands. -/
def execFrecipD (fd : FReg) (fj : FReg) (s : State) : Host.Outcome State Fault Refusal :=
  s.arithD fd .div [0x3FF0000000000000#64, s.freg fj] (FpFmt.b64.div s.rounding .one (fp64 (s.freg fj)))

/-- FRSQRT.S (R372): 1.0 divided by the square root; one or two roundings is FP.rsqrtDouble. -/
def execFrsqrtS (fd : FReg) (fj : FReg) (s : State) : Host.Outcome State Fault Refusal :=
  s.arithS fd .rsqrt [(s.fregLow fj).setWidth 64] (FpFmt.b32.rsqrt s.rounding (fp32 (s.fregLow fj)))

/-- FRSQRT.D (R373): 1.0 divided by the square root; one or two roundings is FP.rsqrtDouble. -/
def execFrsqrtD (fd : FReg) (fj : FReg) (s : State) : Host.Outcome State Fault Refusal :=
  s.arithD fd .rsqrt [s.freg fj] (FpFmt.b64.rsqrt s.rounding (fp64 (s.freg fj)))

/-- FCOPYSIGN.S (R374): magnitude of fj, sign of fk; non-arithmetic (R336). -/
def execFcopysignS (fd : FReg) (fj : FReg) (fk : FReg) (s : State) : Host.Outcome State Fault Refusal :=
  s.complete (s.fpOnly.bind fun _ => .ok (s.setFregLow fd ((s.fregLow fj &&& 0x7FFFFFFF#32) ||| (s.fregLow fk &&& 0x80000000#32))).advance)

/-- FCOPYSIGN.D (R375): magnitude of fj, sign of fk; non-arithmetic (R336). -/
def execFcopysignD (fd : FReg) (fj : FReg) (fk : FReg) (s : State) : Host.Outcome State Fault Refusal :=
  s.complete (s.fpOnly.bind fun _ => .ok (s.setFreg fd ((s.freg fj &&& 0x7FFFFFFFFFFFFFFF#64) ||| (s.freg fk &&& 0x8000000000000000#64))).advance)

/-- FCLASS.S (R376): one bit of ten for the class; non-arithmetic (R336). -/
def execFclassS (fd : FReg) (fj : FReg) (s : State) : Host.Outcome State Fault Refusal :=
  s.complete (s.fpOnly.bind fun _ => .ok (s.setFregLow fd (1#32 <<< FpFmt.b32.classBit (s.fregLow fj).toNat)).advance)

/-- FCLASS.D (R377): one bit of ten for the class; non-arithmetic (R336). -/
def execFclassD (fd : FReg) (fj : FReg) (s : State) : Host.Outcome State Fault Refusal :=
  s.complete (s.fpOnly.bind fun _ => .ok (s.setFreg fd (1#64 <<< FpFmt.b64.classBit (s.freg fj).toNat)).advance)

end Sys2Proof.Machine
end

