-- ==== Sys2Proof/Machine/FpCompare.lean ====
section
/-!
DEFINITION. Floating-point comparison (spec/47_fp_cmp_cvt.md section 1).
-/
namespace Sys2Proof.Machine

/-- FCMP.CAF.S (R381): condition CAF, cond 0x0 (R380). -/
def execFcmpCafS (cd : CReg) (fj : FReg) (fk : FReg) (s : State) : Host.Outcome State Fault Refusal :=
  s.compare 0x0#5 cd (fp32 (s.fregLow fj)) (fp32 (s.fregLow fk))

/-- FCMP.SAF.S (R381): condition SAF, cond 0x1 (R380). -/
def execFcmpSafS (cd : CReg) (fj : FReg) (fk : FReg) (s : State) : Host.Outcome State Fault Refusal :=
  s.compare 0x1#5 cd (fp32 (s.fregLow fj)) (fp32 (s.fregLow fk))

/-- FCMP.CLT.S (R381): condition CLT, cond 0x2 (R380). -/
def execFcmpCltS (cd : CReg) (fj : FReg) (fk : FReg) (s : State) : Host.Outcome State Fault Refusal :=
  s.compare 0x2#5 cd (fp32 (s.fregLow fj)) (fp32 (s.fregLow fk))

/-- FCMP.SLT.S (R381): condition SLT, cond 0x3 (R380). -/
def execFcmpSltS (cd : CReg) (fj : FReg) (fk : FReg) (s : State) : Host.Outcome State Fault Refusal :=
  s.compare 0x3#5 cd (fp32 (s.fregLow fj)) (fp32 (s.fregLow fk))

/-- FCMP.CEQ.S (R381): condition CEQ, cond 0x4 (R380). -/
def execFcmpCeqS (cd : CReg) (fj : FReg) (fk : FReg) (s : State) : Host.Outcome State Fault Refusal :=
  s.compare 0x4#5 cd (fp32 (s.fregLow fj)) (fp32 (s.fregLow fk))

/-- FCMP.SEQ.S (R381): condition SEQ, cond 0x5 (R380). -/
def execFcmpSeqS (cd : CReg) (fj : FReg) (fk : FReg) (s : State) : Host.Outcome State Fault Refusal :=
  s.compare 0x5#5 cd (fp32 (s.fregLow fj)) (fp32 (s.fregLow fk))

/-- FCMP.CLE.S (R381): condition CLE, cond 0x6 (R380). -/
def execFcmpCleS (cd : CReg) (fj : FReg) (fk : FReg) (s : State) : Host.Outcome State Fault Refusal :=
  s.compare 0x6#5 cd (fp32 (s.fregLow fj)) (fp32 (s.fregLow fk))

/-- FCMP.SLE.S (R381): condition SLE, cond 0x7 (R380). -/
def execFcmpSleS (cd : CReg) (fj : FReg) (fk : FReg) (s : State) : Host.Outcome State Fault Refusal :=
  s.compare 0x7#5 cd (fp32 (s.fregLow fj)) (fp32 (s.fregLow fk))

/-- FCMP.CUN.S (R381): condition CUN, cond 0x8 (R380). -/
def execFcmpCunS (cd : CReg) (fj : FReg) (fk : FReg) (s : State) : Host.Outcome State Fault Refusal :=
  s.compare 0x8#5 cd (fp32 (s.fregLow fj)) (fp32 (s.fregLow fk))

/-- FCMP.SUN.S (R381): condition SUN, cond 0x9 (R380). -/
def execFcmpSunS (cd : CReg) (fj : FReg) (fk : FReg) (s : State) : Host.Outcome State Fault Refusal :=
  s.compare 0x9#5 cd (fp32 (s.fregLow fj)) (fp32 (s.fregLow fk))

/-- FCMP.CULT.S (R381): condition CULT, cond 0xA (R380). -/
def execFcmpCultS (cd : CReg) (fj : FReg) (fk : FReg) (s : State) : Host.Outcome State Fault Refusal :=
  s.compare 0xA#5 cd (fp32 (s.fregLow fj)) (fp32 (s.fregLow fk))

/-- FCMP.SULT.S (R381): condition SULT, cond 0xB (R380). -/
def execFcmpSultS (cd : CReg) (fj : FReg) (fk : FReg) (s : State) : Host.Outcome State Fault Refusal :=
  s.compare 0xB#5 cd (fp32 (s.fregLow fj)) (fp32 (s.fregLow fk))

/-- FCMP.CUEQ.S (R381): condition CUEQ, cond 0xC (R380). -/
def execFcmpCueqS (cd : CReg) (fj : FReg) (fk : FReg) (s : State) : Host.Outcome State Fault Refusal :=
  s.compare 0xC#5 cd (fp32 (s.fregLow fj)) (fp32 (s.fregLow fk))

/-- FCMP.SUEQ.S (R381): condition SUEQ, cond 0xD (R380). -/
def execFcmpSueqS (cd : CReg) (fj : FReg) (fk : FReg) (s : State) : Host.Outcome State Fault Refusal :=
  s.compare 0xD#5 cd (fp32 (s.fregLow fj)) (fp32 (s.fregLow fk))

/-- FCMP.CULE.S (R381): condition CULE, cond 0xE (R380). -/
def execFcmpCuleS (cd : CReg) (fj : FReg) (fk : FReg) (s : State) : Host.Outcome State Fault Refusal :=
  s.compare 0xE#5 cd (fp32 (s.fregLow fj)) (fp32 (s.fregLow fk))

/-- FCMP.SULE.S (R381): condition SULE, cond 0xF (R380). -/
def execFcmpSuleS (cd : CReg) (fj : FReg) (fk : FReg) (s : State) : Host.Outcome State Fault Refusal :=
  s.compare 0xF#5 cd (fp32 (s.fregLow fj)) (fp32 (s.fregLow fk))

/-- FCMP.CNE.S (R381): condition CNE, cond 0x10 (R380). -/
def execFcmpCneS (cd : CReg) (fj : FReg) (fk : FReg) (s : State) : Host.Outcome State Fault Refusal :=
  s.compare 0x10#5 cd (fp32 (s.fregLow fj)) (fp32 (s.fregLow fk))

/-- FCMP.SNE.S (R381): condition SNE, cond 0x11 (R380). -/
def execFcmpSneS (cd : CReg) (fj : FReg) (fk : FReg) (s : State) : Host.Outcome State Fault Refusal :=
  s.compare 0x11#5 cd (fp32 (s.fregLow fj)) (fp32 (s.fregLow fk))

/-- FCMP.COR.S (R381): condition COR, cond 0x14 (R380). -/
def execFcmpCorS (cd : CReg) (fj : FReg) (fk : FReg) (s : State) : Host.Outcome State Fault Refusal :=
  s.compare 0x14#5 cd (fp32 (s.fregLow fj)) (fp32 (s.fregLow fk))

/-- FCMP.SOR.S (R381): condition SOR, cond 0x15 (R380). -/
def execFcmpSorS (cd : CReg) (fj : FReg) (fk : FReg) (s : State) : Host.Outcome State Fault Refusal :=
  s.compare 0x15#5 cd (fp32 (s.fregLow fj)) (fp32 (s.fregLow fk))

/-- FCMP.CUNE.S (R381): condition CUNE, cond 0x18 (R380). -/
def execFcmpCuneS (cd : CReg) (fj : FReg) (fk : FReg) (s : State) : Host.Outcome State Fault Refusal :=
  s.compare 0x18#5 cd (fp32 (s.fregLow fj)) (fp32 (s.fregLow fk))

/-- FCMP.SUNE.S (R381): condition SUNE, cond 0x19 (R380). -/
def execFcmpSuneS (cd : CReg) (fj : FReg) (fk : FReg) (s : State) : Host.Outcome State Fault Refusal :=
  s.compare 0x19#5 cd (fp32 (s.fregLow fj)) (fp32 (s.fregLow fk))

/-- FCMP.CAF.D (R382): condition CAF, cond 0x0 (R380). -/
def execFcmpCafD (cd : CReg) (fj : FReg) (fk : FReg) (s : State) : Host.Outcome State Fault Refusal :=
  s.compare 0x0#5 cd (fp64 (s.freg fj)) (fp64 (s.freg fk))

/-- FCMP.SAF.D (R382): condition SAF, cond 0x1 (R380). -/
def execFcmpSafD (cd : CReg) (fj : FReg) (fk : FReg) (s : State) : Host.Outcome State Fault Refusal :=
  s.compare 0x1#5 cd (fp64 (s.freg fj)) (fp64 (s.freg fk))

/-- FCMP.CLT.D (R382): condition CLT, cond 0x2 (R380). -/
def execFcmpCltD (cd : CReg) (fj : FReg) (fk : FReg) (s : State) : Host.Outcome State Fault Refusal :=
  s.compare 0x2#5 cd (fp64 (s.freg fj)) (fp64 (s.freg fk))

/-- FCMP.SLT.D (R382): condition SLT, cond 0x3 (R380). -/
def execFcmpSltD (cd : CReg) (fj : FReg) (fk : FReg) (s : State) : Host.Outcome State Fault Refusal :=
  s.compare 0x3#5 cd (fp64 (s.freg fj)) (fp64 (s.freg fk))

/-- FCMP.CEQ.D (R382): condition CEQ, cond 0x4 (R380). -/
def execFcmpCeqD (cd : CReg) (fj : FReg) (fk : FReg) (s : State) : Host.Outcome State Fault Refusal :=
  s.compare 0x4#5 cd (fp64 (s.freg fj)) (fp64 (s.freg fk))

/-- FCMP.SEQ.D (R382): condition SEQ, cond 0x5 (R380). -/
def execFcmpSeqD (cd : CReg) (fj : FReg) (fk : FReg) (s : State) : Host.Outcome State Fault Refusal :=
  s.compare 0x5#5 cd (fp64 (s.freg fj)) (fp64 (s.freg fk))

/-- FCMP.CLE.D (R382): condition CLE, cond 0x6 (R380). -/
def execFcmpCleD (cd : CReg) (fj : FReg) (fk : FReg) (s : State) : Host.Outcome State Fault Refusal :=
  s.compare 0x6#5 cd (fp64 (s.freg fj)) (fp64 (s.freg fk))

/-- FCMP.SLE.D (R382): condition SLE, cond 0x7 (R380). -/
def execFcmpSleD (cd : CReg) (fj : FReg) (fk : FReg) (s : State) : Host.Outcome State Fault Refusal :=
  s.compare 0x7#5 cd (fp64 (s.freg fj)) (fp64 (s.freg fk))

/-- FCMP.CUN.D (R382): condition CUN, cond 0x8 (R380). -/
def execFcmpCunD (cd : CReg) (fj : FReg) (fk : FReg) (s : State) : Host.Outcome State Fault Refusal :=
  s.compare 0x8#5 cd (fp64 (s.freg fj)) (fp64 (s.freg fk))

/-- FCMP.SUN.D (R382): condition SUN, cond 0x9 (R380). -/
def execFcmpSunD (cd : CReg) (fj : FReg) (fk : FReg) (s : State) : Host.Outcome State Fault Refusal :=
  s.compare 0x9#5 cd (fp64 (s.freg fj)) (fp64 (s.freg fk))

/-- FCMP.CULT.D (R382): condition CULT, cond 0xA (R380). -/
def execFcmpCultD (cd : CReg) (fj : FReg) (fk : FReg) (s : State) : Host.Outcome State Fault Refusal :=
  s.compare 0xA#5 cd (fp64 (s.freg fj)) (fp64 (s.freg fk))

/-- FCMP.SULT.D (R382): condition SULT, cond 0xB (R380). -/
def execFcmpSultD (cd : CReg) (fj : FReg) (fk : FReg) (s : State) : Host.Outcome State Fault Refusal :=
  s.compare 0xB#5 cd (fp64 (s.freg fj)) (fp64 (s.freg fk))

/-- FCMP.CUEQ.D (R382): condition CUEQ, cond 0xC (R380). -/
def execFcmpCueqD (cd : CReg) (fj : FReg) (fk : FReg) (s : State) : Host.Outcome State Fault Refusal :=
  s.compare 0xC#5 cd (fp64 (s.freg fj)) (fp64 (s.freg fk))

/-- FCMP.SUEQ.D (R382): condition SUEQ, cond 0xD (R380). -/
def execFcmpSueqD (cd : CReg) (fj : FReg) (fk : FReg) (s : State) : Host.Outcome State Fault Refusal :=
  s.compare 0xD#5 cd (fp64 (s.freg fj)) (fp64 (s.freg fk))

/-- FCMP.CULE.D (R382): condition CULE, cond 0xE (R380). -/
def execFcmpCuleD (cd : CReg) (fj : FReg) (fk : FReg) (s : State) : Host.Outcome State Fault Refusal :=
  s.compare 0xE#5 cd (fp64 (s.freg fj)) (fp64 (s.freg fk))

/-- FCMP.SULE.D (R382): condition SULE, cond 0xF (R380). -/
def execFcmpSuleD (cd : CReg) (fj : FReg) (fk : FReg) (s : State) : Host.Outcome State Fault Refusal :=
  s.compare 0xF#5 cd (fp64 (s.freg fj)) (fp64 (s.freg fk))

/-- FCMP.CNE.D (R382): condition CNE, cond 0x10 (R380). -/
def execFcmpCneD (cd : CReg) (fj : FReg) (fk : FReg) (s : State) : Host.Outcome State Fault Refusal :=
  s.compare 0x10#5 cd (fp64 (s.freg fj)) (fp64 (s.freg fk))

/-- FCMP.SNE.D (R382): condition SNE, cond 0x11 (R380). -/
def execFcmpSneD (cd : CReg) (fj : FReg) (fk : FReg) (s : State) : Host.Outcome State Fault Refusal :=
  s.compare 0x11#5 cd (fp64 (s.freg fj)) (fp64 (s.freg fk))

/-- FCMP.COR.D (R382): condition COR, cond 0x14 (R380). -/
def execFcmpCorD (cd : CReg) (fj : FReg) (fk : FReg) (s : State) : Host.Outcome State Fault Refusal :=
  s.compare 0x14#5 cd (fp64 (s.freg fj)) (fp64 (s.freg fk))

/-- FCMP.SOR.D (R382): condition SOR, cond 0x15 (R380). -/
def execFcmpSorD (cd : CReg) (fj : FReg) (fk : FReg) (s : State) : Host.Outcome State Fault Refusal :=
  s.compare 0x15#5 cd (fp64 (s.freg fj)) (fp64 (s.freg fk))

/-- FCMP.CUNE.D (R382): condition CUNE, cond 0x18 (R380). -/
def execFcmpCuneD (cd : CReg) (fj : FReg) (fk : FReg) (s : State) : Host.Outcome State Fault Refusal :=
  s.compare 0x18#5 cd (fp64 (s.freg fj)) (fp64 (s.freg fk))

/-- FCMP.SUNE.D (R382): condition SUNE, cond 0x19 (R380). -/
def execFcmpSuneD (cd : CReg) (fj : FReg) (fk : FReg) (s : State) : Host.Outcome State Fault Refusal :=
  s.compare 0x19#5 cd (fp64 (s.freg fj)) (fp64 (s.freg fk))

end Sys2Proof.Machine
end

