-- ==== Sys2Proof/Machine/FpConvert.lean ====
section
/-!
DEFINITION. Floating-point conversion (spec/47_fp_cmp_cvt.md sections 2 to 4).
-/
namespace Sys2Proof.Machine

/-- FCVT.S.D (R383): binary64 to binary32, rounded. -/
def execFcvtSD (fd : FReg) (fj : FReg) (s : State) : Host.Outcome State Fault Refusal :=
  s.arithS fd .convert [s.freg fj] (FpFmt.b32.convert s.rounding (fp64 (s.freg fj)))

/-- FCVT.D.S (R384): binary32 to binary64, exact. -/
def execFcvtDS (fd : FReg) (fj : FReg) (s : State) : Host.Outcome State Fault Refusal :=
  s.arithD fd .convert [(s.fregLow fj).setWidth 64] (FpFmt.b64.convert s.rounding (fp32 (s.fregLow fj)))

/-- FFINT.S.W (R385): the signed integer in bits 31:0 of fj to binary32, rounded. -/
def execFfintSW (fd : FReg) (fj : FReg) (s : State) : Host.Outcome State Fault Refusal :=
  s.arithS fd .convert [] (FpFmt.b32.ofInt s.rounding (s.fregLow fj).toInt)

/-- FFINT.D.W (R386): the signed integer in bits 31:0 of fj to binary64, exact. -/
def execFfintDW (fd : FReg) (fj : FReg) (s : State) : Host.Outcome State Fault Refusal :=
  s.arithD fd .convert [] (FpFmt.b64.ofInt s.rounding (s.fregLow fj).toInt)

/-- FTINT.W.S (R387): to a signed 32-bit integer, in the direction of fcsr0.RM (R397). -/
def execFtintWS (fd : FReg) (fj : FReg) (s : State) : Host.Outcome State Fault Refusal :=
  s.toInt fd s.rounding (fp32 (s.fregLow fj)) (Config.ftintInvalid32 (s.fregLow fj))

/-- FTINT.W.D (R388): to a signed 32-bit integer, in the direction of fcsr0.RM (R397). -/
def execFtintWD (fd : FReg) (fj : FReg) (s : State) : Host.Outcome State Fault Refusal :=
  s.toInt fd s.rounding (fp64 (s.freg fj)) (Config.ftintInvalid64 (s.freg fj))

/-- FTINTRM.W.S (R389): to a signed 32-bit integer, toward minus infinity (R397). -/
def execFtintrmWS (fd : FReg) (fj : FReg) (s : State) : Host.Outcome State Fault Refusal :=
  s.toInt fd .down (fp32 (s.fregLow fj)) (Config.ftintInvalid32 (s.fregLow fj))

/-- FTINTRM.W.D (R390): to a signed 32-bit integer, toward minus infinity (R397). -/
def execFtintrmWD (fd : FReg) (fj : FReg) (s : State) : Host.Outcome State Fault Refusal :=
  s.toInt fd .down (fp64 (s.freg fj)) (Config.ftintInvalid64 (s.freg fj))

/-- FTINTRP.W.S (R391): to a signed 32-bit integer, toward plus infinity (R397). -/
def execFtintrpWS (fd : FReg) (fj : FReg) (s : State) : Host.Outcome State Fault Refusal :=
  s.toInt fd .up (fp32 (s.fregLow fj)) (Config.ftintInvalid32 (s.fregLow fj))

/-- FTINTRP.W.D (R392): to a signed 32-bit integer, toward plus infinity (R397). -/
def execFtintrpWD (fd : FReg) (fj : FReg) (s : State) : Host.Outcome State Fault Refusal :=
  s.toInt fd .up (fp64 (s.freg fj)) (Config.ftintInvalid64 (s.freg fj))

/-- FTINTRZ.W.S (R393): to a signed 32-bit integer, toward zero (R397). -/
def execFtintrzWS (fd : FReg) (fj : FReg) (s : State) : Host.Outcome State Fault Refusal :=
  s.toInt fd .towardZero (fp32 (s.fregLow fj)) (Config.ftintInvalid32 (s.fregLow fj))

/-- FTINTRZ.W.D (R394): to a signed 32-bit integer, toward zero (R397). -/
def execFtintrzWD (fd : FReg) (fj : FReg) (s : State) : Host.Outcome State Fault Refusal :=
  s.toInt fd .towardZero (fp64 (s.freg fj)) (Config.ftintInvalid64 (s.freg fj))

/-- FTINTRNE.W.S (R395): to a signed 32-bit integer, to nearest even (R397). -/
def execFtintrneWS (fd : FReg) (fj : FReg) (s : State) : Host.Outcome State Fault Refusal :=
  s.toInt fd .nearestEven (fp32 (s.fregLow fj)) (Config.ftintInvalid32 (s.fregLow fj))

/-- FTINTRNE.W.D (R396): to a signed 32-bit integer, to nearest even (R397). -/
def execFtintrneWD (fd : FReg) (fj : FReg) (s : State) : Host.Outcome State Fault Refusal :=
  s.toInt fd .nearestEven (fp64 (s.freg fj)) (Config.ftintInvalid64 (s.freg fj))

end Sys2Proof.Machine
end

