-- ==== Sys2Proof/Machine/FpMem.lean ====
section
/-!
DEFINITION. Floating-point loads and stores (spec/48_fp_move_branch_mem.md section 6).
-/
namespace Sys2Proof.Machine

/-- FLD.S (R437): a word into bits 31:0 of fd. -/
def execFldS (fd : FReg) (rj : GReg) (si12 : BitVec 12) (s : State) : Host.Outcome State Fault Refusal :=
  s.complete (s.fpOnly.bind fun _ => (s.load (s.effAddr rj si12) 4).bind fun v => .ok (s.setFregLow fd v).advance)

/-- FLD.D (R438): a doubleword into fd. -/
def execFldD (fd : FReg) (rj : GReg) (si12 : BitVec 12) (s : State) : Host.Outcome State Fault Refusal :=
  s.complete (s.fpOnly.bind fun _ => (s.load (s.effAddr rj si12) 8).bind fun v => .ok (s.setFreg fd v).advance)

/-- FST.S (R439): bits 31:0 of fd. -/
def execFstS (fd : FReg) (rj : GReg) (si12 : BitVec 12) (s : State) : Host.Outcome State Fault Refusal :=
  s.complete (s.fpOnly.bind fun _ => (s.store (s.effAddr rj si12) 4 (s.fregLow fd)).bind fun t => .ok t.advance)

/-- FST.D (R440): all 64 bits of fd. -/
def execFstD (fd : FReg) (rj : GReg) (si12 : BitVec 12) (s : State) : Host.Outcome State Fault Refusal :=
  s.complete (s.fpOnly.bind fun _ => (s.store (s.effAddr rj si12) 8 (s.freg fd)).bind fun t => .ok t.advance)

end Sys2Proof.Machine
end

