-- ==== Sys2Proof/Machine/FpMove.lean ====
section
/-!
DEFINITION. Floating-point moves, FCSR access, condition flags and their branches (spec/48_fp_move_branch_mem.md sections 1 to 5).
-/
namespace Sys2Proof.Machine

/-- Read an FCSR by number: its view of fcsr0, or a free value (R428, R430). -/
def State.readFcsr (s : State) (n : BitVec 5) : Word × State :=
  match fcsrMask n with
  | some m => (s.fcsr0 &&& m, s)
  | none => (Config.freeFcsrRead s.draws, { s with draws := s.draws + 1 })

/-- Write an FCSR by number: the fields of its view, or every writable field free (R427, R430). -/
def State.writeFcsr (s : State) (n : BitVec 5) (v : Word) : State :=
  match fcsrMask n with
  | some m => { s with fcsr0 := maskWrite s.fcsr0 v m }
  | none => { s with fcsr0 := maskWrite s.fcsr0 (Config.freeFcsrWrite s.draws) 0x1F1F031F#32, draws := s.draws + 1 }

/-- FMOV.S (R420): the bits copied; non-arithmetic (R336). -/
def execFmovS (fd : FReg) (fj : FReg) (s : State) : Host.Outcome State Fault Refusal :=
  s.complete (s.fpOnly.bind fun _ => .ok (s.setFregLow fd (s.fregLow fj)).advance)

/-- FMOV.D (R421): the bits copied; non-arithmetic (R336). -/
def execFmovD (fd : FReg) (fj : FReg) (s : State) : Host.Outcome State Fault Refusal :=
  s.complete (s.fpOnly.bind fun _ => .ok (s.setFreg fd (s.freg fj)).advance)

/-- FSEL (R422): fj when the flag is 0, fk when it is 1. -/
def execFsel (fd : FReg) (fj : FReg) (fk : FReg) (ca : CReg) (s : State) : Host.Outcome State Fault Refusal :=
  s.complete (s.fpOnly.bind fun _ => .ok (s.setFreg fd (if s.cflag ca then s.freg fk else s.freg fj)).advance)

/-- MOVGR2FR.W (R423): the bits of rj into bits 31:0 of fd. -/
def execMovgr2frW (fd : FReg) (rj : GReg) (s : State) : Host.Outcome State Fault Refusal :=
  s.complete (s.fpOnly.bind fun _ => .ok (s.setFregLow fd (s.reg rj)).advance)

/-- MOVGR2FRH.W (R424): the bits of rj into bits 63:32 of fd, bits 31:0 kept. -/
def execMovgr2frhW (fd : FReg) (rj : GReg) (s : State) : Host.Outcome State Fault Refusal :=
  s.complete (s.fpOnly.bind fun _ => .ok (s.setFregHigh fd (s.reg rj)).advance)

/-- MOVFR2GR.S (R425): bits 31:0 of fj into rd. -/
def execMovfr2grS (rd : GReg) (fj : FReg) (s : State) : Host.Outcome State Fault Refusal :=
  s.complete (s.fpOnly.bind fun _ => .ok (s.setReg rd (s.fregLow fj)).advance)

/-- MOVFRH2GR.S (R426): bits 63:32 of fj into rd. -/
def execMovfrh2grS (rd : GReg) (fj : FReg) (s : State) : Host.Outcome State Fault Refusal :=
  s.complete (s.fpOnly.bind fun _ => .ok (s.setReg rd ((s.freg fj).extractLsb' 32 32)).advance)

/-- MOVGR2FCSR (R427): the writable fields of the view; an FCSR that does not exist leaves them free (R430). -/
def execMovgr2fcsr (fcsr : BitVec 5) (rj : GReg) (s : State) : Host.Outcome State Fault Refusal :=
  s.complete (s.fpOnly.bind fun _ => .ok (s.writeFcsr fcsr (s.reg rj)).advance)

/-- MOVFCSR2GR (R428): the view; an FCSR that does not exist reads a free value (R430). -/
def execMovfcsr2gr (rd : GReg) (fcsr : BitVec 5) (s : State) : Host.Outcome State Fault Refusal :=
  s.complete (s.fpOnly.bind fun _ => .ok ((s.readFcsr fcsr).2.setReg rd (s.readFcsr fcsr).1).advance)

/-- MOVFR2CF (R431): bit 0 of fj. -/
def execMovfr2cf (cd : CReg) (fj : FReg) (s : State) : Host.Outcome State Fault Refusal :=
  s.complete (s.fpOnly.bind fun _ => .ok (s.setCflag cd ((s.freg fj).getLsbD 0)).advance)

/-- MOVCF2FR (R432): the flag, zero-extended to 64 bits. -/
def execMovcf2fr (fd : FReg) (cj : CReg) (s : State) : Host.Outcome State Fault Refusal :=
  s.complete (s.fpOnly.bind fun _ => .ok (s.setFreg fd ((boolWord (s.cflag cj)).setWidth 64)).advance)

/-- MOVGR2CF (R433): bit 0 of rj. -/
def execMovgr2cf (cd : CReg) (rj : GReg) (s : State) : Host.Outcome State Fault Refusal :=
  s.complete (s.fpOnly.bind fun _ => .ok (s.setCflag cd ((s.reg rj).getLsbD 0)).advance)

/-- MOVCF2GR (R434): the flag, zero-extended. -/
def execMovcf2gr (rd : GReg) (cj : CReg) (s : State) : Host.Outcome State Fault Refusal :=
  s.complete (s.fpOnly.bind fun _ => .ok (s.setReg rd (boolWord (s.cflag cj))).advance)

/-- BCEQZ (R435): taken when the flag is 0. -/
def execBceqz (cj : CReg) (offs21 : BitVec 21) (s : State) : Host.Outcome State Fault Refusal :=
  s.complete (s.fpOnly.bind fun _ => .ok (s.branchIf (!s.cflag cj) offs21))

/-- BCNEZ (R436): taken when the flag is 1. -/
def execBcnez (cj : CReg) (offs21 : BitVec 21) (s : State) : Host.Outcome State Fault Refusal :=
  s.complete (s.fpOnly.bind fun _ => .ok (s.branchIf (s.cflag cj) offs21))

end Sys2Proof.Machine
end

