-- ==== Sys2Proof/Machine/IntArith.lean ====
section
/-!
DEFINITION. Integer arithmetic (spec/40_int_arith.md).
-/
namespace Sys2Proof.Machine

/-- Bits 63:32 of the exact signed product (R211). -/
def mulHighSigned (a b : Word) : Word := (a.signExtend 64 * b.signExtend 64).extractLsb' 32 32

/-- Bits 63:32 of the exact unsigned product (R212). -/
def mulHighUnsigned (a b : Word) : Word := (a.setWidth 64 * b.setWidth 64).extractLsb' 32 32

/-- The signed quotient rounded toward zero, its low 32 bits (R213, R217). -/
def divSigned (a b : Word) : Word := BitVec.ofInt 32 (a.toInt.tdiv b.toInt)

/-- The signed remainder, with the sign of the dividend (R215, R217). -/
def modSigned (a b : Word) : Word := BitVec.ofInt 32 (a.toInt.tmod b.toInt)

/-- The unsigned quotient (R214). -/
def divUnsigned (a b : Word) : Word := BitVec.ofNat 32 (a.toNat / b.toNat)

/-- The unsigned remainder (R216). -/
def modUnsigned (a b : Word) : Word := BitVec.ofNat 32 (a.toNat % b.toNat)

/-- Write the result of a division; a zero divisor leaves a free value (R217, U16, log 23). -/
def State.divResult (s : State) (rd : GReg) (divisor result : Word) : State :=
  if divisor = 0#32 then { s with draws := s.draws + 1 }.setReg rd (Config.freeDiv s.draws) else s.setReg rd result

/-- ADD.W (R201): the sum modulo 2^32. -/
def execAddW (rd : GReg) (rj : GReg) (rk : GReg) (s : State) : Host.Outcome State Fault Refusal :=
  .next (s.setReg rd (s.reg rj + s.reg rk)).advance

/-- SUB.W (R202): the difference modulo 2^32. -/
def execSubW (rd : GReg) (rj : GReg) (rk : GReg) (s : State) : Host.Outcome State Fault Refusal :=
  .next (s.setReg rd (s.reg rj - s.reg rk)).advance

/-- ADDI.W (R203): the sum with the sign-extended immediate. -/
def execAddiW (rd : GReg) (rj : GReg) (si12 : BitVec 12) (s : State) : Host.Outcome State Fault Refusal :=
  .next (s.setReg rd (s.reg rj + sext12 si12)).advance

/-- LU12I.W (R204): the immediate in bits 31:12. -/
def execLu12iW (rd : GReg) (si20 : BitVec 20) (s : State) : Host.Outcome State Fault Refusal :=
  .next (s.setReg rd (upper20 si20)).advance

/-- SLT (R205): 1 when less as signed integers, else 0. -/
def execSlt (rd : GReg) (rj : GReg) (rk : GReg) (s : State) : Host.Outcome State Fault Refusal :=
  .next (s.setReg rd (boolWord ((s.reg rj).slt (s.reg rk)))).advance

/-- SLTU (R206): 1 when less as unsigned integers, else 0. -/
def execSltu (rd : GReg) (rj : GReg) (rk : GReg) (s : State) : Host.Outcome State Fault Refusal :=
  .next (s.setReg rd (boolWord ((s.reg rj).ult (s.reg rk)))).advance

/-- SLTI (R207): 1 when less than the sign-extended immediate as signed integers. -/
def execSlti (rd : GReg) (rj : GReg) (si12 : BitVec 12) (s : State) : Host.Outcome State Fault Refusal :=
  .next (s.setReg rd (boolWord ((s.reg rj).slt (sext12 si12)))).advance

/-- SLTUI (R208): the immediate is sign-extended and then compared unsigned. -/
def execSltui (rd : GReg) (rj : GReg) (si12 : BitVec 12) (s : State) : Host.Outcome State Fault Refusal :=
  .next (s.setReg rd (boolWord ((s.reg rj).ult (sext12 si12)))).advance

/-- PCADDU12I (R209): the address of this instruction plus the immediate in bits 31:12. -/
def execPcaddu12i (rd : GReg) (si20 : BitVec 20) (s : State) : Host.Outcome State Fault Refusal :=
  .next (s.setReg rd (s.pc + upper20 si20)).advance

/-- MUL.W (R210): the low word of the product. -/
def execMulW (rd : GReg) (rj : GReg) (rk : GReg) (s : State) : Host.Outcome State Fault Refusal :=
  .next (s.setReg rd (s.reg rj * s.reg rk)).advance

/-- MULH.W (R211): bits 63:32 of the signed product. -/
def execMulhW (rd : GReg) (rj : GReg) (rk : GReg) (s : State) : Host.Outcome State Fault Refusal :=
  .next (s.setReg rd (mulHighSigned (s.reg rj) (s.reg rk))).advance

/-- MULH.WU (R212): bits 63:32 of the unsigned product. -/
def execMulhWu (rd : GReg) (rj : GReg) (rk : GReg) (s : State) : Host.Outcome State Fault Refusal :=
  .next (s.setReg rd (mulHighUnsigned (s.reg rj) (s.reg rk))).advance

/-- DIV.W (R213): the signed quotient rounded toward zero; by zero a free value (R217). -/
def execDivW (rd : GReg) (rj : GReg) (rk : GReg) (s : State) : Host.Outcome State Fault Refusal :=
  .next (s.divResult rd (s.reg rk) (divSigned (s.reg rj) (s.reg rk))).advance

/-- DIV.WU (R214): the unsigned quotient; by zero a free value (R217). -/
def execDivWu (rd : GReg) (rj : GReg) (rk : GReg) (s : State) : Host.Outcome State Fault Refusal :=
  .next (s.divResult rd (s.reg rk) (divUnsigned (s.reg rj) (s.reg rk))).advance

/-- MOD.W (R215): the signed remainder; by zero a free value (R217). -/
def execModW (rd : GReg) (rj : GReg) (rk : GReg) (s : State) : Host.Outcome State Fault Refusal :=
  .next (s.divResult rd (s.reg rk) (modSigned (s.reg rj) (s.reg rk))).advance

/-- MOD.WU (R216): the unsigned remainder; by zero a free value (R217). -/
def execModWu (rd : GReg) (rj : GReg) (rk : GReg) (s : State) : Host.Outcome State Fault Refusal :=
  .next (s.divResult rd (s.reg rk) (modUnsigned (s.reg rj) (s.reg rk))).advance

end Sys2Proof.Machine
end

