-- ==== Sys2Proof/Machine/IntLogic.lean ====
section
/-!
DEFINITION. Logic and shifts (spec/41_int_logic_shift.md).
-/
namespace Sys2Proof.Machine

/-- AND (R231): bitwise and. -/
def execAnd (rd : GReg) (rj : GReg) (rk : GReg) (s : State) : Host.Outcome State Fault Refusal :=
  .next (s.setReg rd (s.reg rj &&& s.reg rk)).advance

/-- OR (R232): bitwise or. -/
def execOr (rd : GReg) (rj : GReg) (rk : GReg) (s : State) : Host.Outcome State Fault Refusal :=
  .next (s.setReg rd (s.reg rj ||| s.reg rk)).advance

/-- NOR (R233): complement of the bitwise or. -/
def execNor (rd : GReg) (rj : GReg) (rk : GReg) (s : State) : Host.Outcome State Fault Refusal :=
  .next (s.setReg rd (~~~(s.reg rj ||| s.reg rk))).advance

/-- XOR (R234): bitwise exclusive or. -/
def execXor (rd : GReg) (rj : GReg) (rk : GReg) (s : State) : Host.Outcome State Fault Refusal :=
  .next (s.setReg rd (s.reg rj ^^^ s.reg rk)).advance

/-- ANDI (R235): and with the zero-extended immediate. -/
def execAndi (rd : GReg) (rj : GReg) (ui12 : BitVec 12) (s : State) : Host.Outcome State Fault Refusal :=
  .next (s.setReg rd (s.reg rj &&& zext12 ui12)).advance

/-- ORI (R236): or with the zero-extended immediate. -/
def execOri (rd : GReg) (rj : GReg) (ui12 : BitVec 12) (s : State) : Host.Outcome State Fault Refusal :=
  .next (s.setReg rd (s.reg rj ||| zext12 ui12)).advance

/-- XORI (R237): exclusive or with the zero-extended immediate. -/
def execXori (rd : GReg) (rj : GReg) (ui12 : BitVec 12) (s : State) : Host.Outcome State Fault Refusal :=
  .next (s.setReg rd (s.reg rj ^^^ zext12 ui12)).advance

/-- SLL.W (R238): logical left shift by the low 5 bits of rk. -/
def execSllW (rd : GReg) (rj : GReg) (rk : GReg) (s : State) : Host.Outcome State Fault Refusal :=
  .next (s.setReg rd (s.reg rj <<< shiftAmount (s.reg rk))).advance

/-- SRL.W (R239): logical right shift by the low 5 bits of rk. -/
def execSrlW (rd : GReg) (rj : GReg) (rk : GReg) (s : State) : Host.Outcome State Fault Refusal :=
  .next (s.setReg rd (s.reg rj >>> shiftAmount (s.reg rk))).advance

/-- SRA.W (R240): arithmetic right shift by the low 5 bits of rk. -/
def execSraW (rd : GReg) (rj : GReg) (rk : GReg) (s : State) : Host.Outcome State Fault Refusal :=
  .next (s.setReg rd ((s.reg rj).sshiftRight (shiftAmount (s.reg rk)))).advance

/-- SLLI.W (R241): logical left shift by ui5. -/
def execSlliW (rd : GReg) (rj : GReg) (ui5 : BitVec 5) (s : State) : Host.Outcome State Fault Refusal :=
  .next (s.setReg rd (s.reg rj <<< ui5.toNat)).advance

/-- SRLI.W (R242): logical right shift by ui5. -/
def execSrliW (rd : GReg) (rj : GReg) (ui5 : BitVec 5) (s : State) : Host.Outcome State Fault Refusal :=
  .next (s.setReg rd (s.reg rj >>> ui5.toNat)).advance

/-- SRAI.W (R243): arithmetic right shift by ui5. -/
def execSraiW (rd : GReg) (rj : GReg) (ui5 : BitVec 5) (s : State) : Host.Outcome State Fault Refusal :=
  .next (s.setReg rd ((s.reg rj).sshiftRight ui5.toNat)).advance

end Sys2Proof.Machine
end

