-- ==== Sys2Proof/Machine/LoadStore.lean ====
section
/-!
DEFINITION. Integer loads, stores and PRELD (spec/43_load_store.md).
-/
namespace Sys2Proof.Machine

/-- LD.B (R271): a byte, sign-extended. -/
def execLdB (rd : GReg) (rj : GReg) (si12 : BitVec 12) (s : State) : Host.Outcome State Fault Refusal :=
  s.complete ((s.load (s.effAddr rj si12) 1).bind fun v => .ok (s.setReg rd (v.signExtend 32)).advance)

/-- LD.H (R272): a halfword, sign-extended. -/
def execLdH (rd : GReg) (rj : GReg) (si12 : BitVec 12) (s : State) : Host.Outcome State Fault Refusal :=
  s.complete ((s.load (s.effAddr rj si12) 2).bind fun v => .ok (s.setReg rd (v.signExtend 32)).advance)

/-- LD.W (R273): a word. -/
def execLdW (rd : GReg) (rj : GReg) (si12 : BitVec 12) (s : State) : Host.Outcome State Fault Refusal :=
  s.complete ((s.load (s.effAddr rj si12) 4).bind fun v => .ok (s.setReg rd (v)).advance)

/-- LD.BU (R274): a byte, zero-extended. -/
def execLdBu (rd : GReg) (rj : GReg) (si12 : BitVec 12) (s : State) : Host.Outcome State Fault Refusal :=
  s.complete ((s.load (s.effAddr rj si12) 1).bind fun v => .ok (s.setReg rd (v.setWidth 32)).advance)

/-- LD.HU (R275): a halfword, zero-extended. -/
def execLdHu (rd : GReg) (rj : GReg) (si12 : BitVec 12) (s : State) : Host.Outcome State Fault Refusal :=
  s.complete ((s.load (s.effAddr rj si12) 2).bind fun v => .ok (s.setReg rd (v.setWidth 32)).advance)

/-- ST.B (R276): the low byte of rd. -/
def execStB (rd : GReg) (rj : GReg) (si12 : BitVec 12) (s : State) : Host.Outcome State Fault Refusal :=
  s.complete ((s.store (s.effAddr rj si12) 1 ((s.reg rd).extractLsb' 0 8)).bind fun t => .ok t.advance)

/-- ST.H (R277): the low halfword of rd. -/
def execStH (rd : GReg) (rj : GReg) (si12 : BitVec 12) (s : State) : Host.Outcome State Fault Refusal :=
  s.complete ((s.store (s.effAddr rj si12) 2 ((s.reg rd).extractLsb' 0 16)).bind fun t => .ok t.advance)

/-- ST.W (R278): the word in rd. -/
def execStW (rd : GReg) (rj : GReg) (si12 : BitVec 12) (s : State) : Host.Outcome State Fault Refusal :=
  s.complete ((s.store (s.effAddr rj si12) 4 (s.reg rd)).bind fun t => .ok t.advance)

/-- PRELD (R279): no architectural effect for any hint and any address, and no exception. -/
def execPreld (_hint : BitVec 5) (_rj : GReg) (_si12 : BitVec 12) (s : State) : Host.Outcome State Fault Refusal :=
  .next s.advance

end Sys2Proof.Machine
end

