-- ==== Sys2Proof/Machine/Misc.lean ====
section
/-!
DEFINITION. SYSCALL, BREAK and the counter reads (spec/45_misc_counter.md).
-/
namespace Sys2Proof.Machine

/-- SYSCALL (R310): raises SYS; the code is for the handler. -/
def execSyscall (_code : BitVec 15) (s : State) : Host.Outcome State Fault Refusal :=
  s.complete (.raise .sys 0#32)

/-- BREAK (R311): raises BRK; the code is for the handler. -/
def execBrk (_code : BitVec 15) (s : State) : Host.Outcome State Fault Refusal :=
  s.complete (.raise .brk 0#32)

/-- RDCNTVL.W (R312): bits 31:0 of the Stable Counter. -/
def execRdcntvlW (rd : GReg) (s : State) : Host.Outcome State Fault Refusal :=
  .next (s.setReg rd (s.stableCounter.extractLsb' 0 32)).advance

/-- RDCNTVH.W (R313): bits 63:32 of the Stable Counter. -/
def execRdcntvhW (rd : GReg) (s : State) : Host.Outcome State Fault Refusal :=
  .next (s.setReg rd (s.stableCounter.extractLsb' 32 32)).advance

/-- RDCNTID (R314): the Counter ID, CSR.TID, into rj. -/
def execRdcntid (rj : GReg) (s : State) : Host.Outcome State Fault Refusal :=
  .next (s.setReg rj s.csr.tid).advance

end Sys2Proof.Machine
end

