-- ==== Sys2Proof/Machine/Privileged.lean ====
section
/-!
DEFINITION. The privileged instructions (spec/49_privileged.md).
-/
namespace Sys2Proof.Machine

/-- What TLBRD shows of an entry (R481). -/
def State.showTlbEntry (s : State) (t : TlbEntry) : State :=
  { s with csr := { s.csr with
      tlbehi := if t.e then t.vppn ++ 0#13 else 0#32
      tlbelo0 := if t.e then t.lo0.toWord t.g &&& s.pageBits else 0#32
      tlbelo1 := if t.e then t.lo1.toWord t.g &&& s.pageBits else 0#32
      asid := setField s.csr.asid 0 (if t.e then t.asid else 0#10)
      tlbidx := setField (setField s.csr.tlbidx 24 (if t.e then t.ps else 0#6)) 31 (if t.e then 0#1 else 1#1) } }

/-- CSRRD (R461): the value of the CSR. -/
def execCsrrd (rd : GReg) (csr : CsrNum) (s : State) : Host.Outcome State Fault Refusal :=
  s.complete (s.kernelOnly.bind fun _ => .ok (s.setReg rd (s.csrRead csr)).advance)

/-- CSRWR (R462): writes the old rd to the CSR and its old value to rd. -/
def execCsrwr (rd : GReg) (csr : CsrNum) (s : State) : Host.Outcome State Fault Refusal :=
  s.complete (s.kernelOnly.bind fun _ => (s.csrWrite csr (s.reg rd) 0xFFFFFFFF#32).bind fun t =>
    .ok (t.setReg rd (s.csrRead csr)).advance)

/-- CSRXCHG (R463): writes the old rd to the CSR where the mask in rj is 1, and its old value to rd. -/
def execCsrxchg (rd : GReg) (rj : GReg) (csr : CsrNum) (s : State) : Host.Outcome State Fault Refusal :=
  s.complete (s.kernelOnly.bind fun _ => (s.csrWrite csr (s.reg rd) (s.reg rj)).bind fun t =>
    .ok (t.setReg rd (s.csrRead csr)).advance)

/-- CACOP (R470): caches are not state (R62): a lookup by address translates as a load and may raise; nothing else happens. -/
def execCacop (code : BitVec 5) (rj : GReg) (si12 : BitVec 12) (s : State) : Host.Outcome State Fault Refusal :=
  s.complete (s.kernelOnly.bind fun _ => if code.extractLsb' 3 2 = 3#2 ∨ 2 < (code.extractLsb' 0 3).toNat then .refuse .cacopUndefined
    else if code.extractLsb' 3 2 = 2#2 then (s.translate (s.effAddr rj si12) .load).bind fun _ => .ok s.advance
    else .ok s.advance)

/-- TLBSRCH (R480): Index and NE from a lookup of TLBEHI and ASID; several matches are refused (U13). -/
def execTlbsrch (s : State) : Host.Outcome State Fault Refusal :=
  s.complete (s.kernelOnly.bind fun _ => match s.tlbSearch with
    | [] => .ok { s with csr := { s.csr with tlbidx := setField s.csr.tlbidx 31 1#1 } }.advance
    | [i] => .ok { s with csr := { s.csr with tlbidx := (s.csr.tlbidx &&& ~~~(lowMask s.indexBits ||| 0x80000000#32)) ||| BitVec.ofNat 32 i } }.advance
    | _ => .refuse .tlbMultipleHit)

/-- TLBRD (R481): the entry at Index into TLBEHI, TLBELO0, TLBELO1, TLBIDX.PS and ASID; an invalid one sets NE and clears them. -/
def execTlbrd (s : State) : Host.Outcome State Fault Refusal :=
  s.complete (s.kernelOnly.bind fun _ => match s.tlb[s.tlbIndex]? with
    | none => .refuse .tlbIndexOutOfRange
    | some t => .ok (s.showTlbEntry t).advance)

/-- TLBWR (R482): the entry at Index is replaced (R484). -/
def execTlbwr (s : State) : Host.Outcome State Fault Refusal :=
  s.complete (s.kernelOnly.bind fun _ => if s.tlbIndex < s.tlb.length then
      s.checkedTlbEntry.bind fun t => .ok { s with tlb := s.tlb.set s.tlbIndex t }.advance
    else .refuse .tlbIndexOutOfRange)

/-- TLBFILL (R483): an entry of the hardware's choice, a free one, is replaced (R484). -/
def execTlbfill (s : State) : Host.Outcome State Fault Refusal :=
  s.complete (s.kernelOnly.bind fun _ => s.checkedTlbEntry.bind fun t =>
    .ok { s with tlb := s.tlb.set (Config.freeFillIndex s.draws % s.tlb.length) t, draws := s.draws + 1 }.advance)

/-- INVTLB (R485): clears E of the selected entries; an op above 6 raises INE; set bits above the ASID are refused (U17). -/
def execInvtlb (op : BitVec 5) (rj : GReg) (rk : GReg) (s : State) : Host.Outcome State Fault Refusal :=
  s.complete (s.kernelOnly.bind fun _ => if 6 < op.toNat then .raise .ine 0#32
    else if 4 ≤ op.toNat ∧ (s.reg rj).extractLsb' 10 22 ≠ 0#22 then .refuse .invtlbAsidBits
    else .ok { s with tlb := s.tlb.map fun t : TlbEntry =>
      if t.invSelected op ((s.reg rj).extractLsb' 0 10) (s.reg rk) then { t with e := false } else t }.advance)

/-- ERTN (R490): the return from an exception. -/
def execErtn (s : State) : Host.Outcome State Fault Refusal :=
  s.complete (s.kernelOnly.bind fun _ => s.returnFromException)

/-- IDLE (R491): goes on at pc + 4 and waits, until the step wakes it (R555); with an enabled source already pending the core
does not wait. -/
def execIdle (_level : BitVec 15) (s : State) : Host.Outcome State Fault Refusal :=
  s.complete (s.kernelOnly.bind fun _ => .ok { s.advance with idle := decide (s.pending = 0#13) })

end Sys2Proof.Machine
end

