-- ==== Sys2Proof/Machine/Step.lean ====
section
/-!
DEFINITION. One step of the machine (spec/00_scope.md rule R12): the next input event, the wait of IDLE, an interrupt, or the
fetch, decoding and execution of one instruction; and placing a word where the next step fetches it.
-/
namespace Sys2Proof.Machine

/-- Run a fetched word in the state after its fetch (R12, R128): its instruction, INE for a word that is none, a refusal for
the words of R129(g). -/
def State.runWord (s : State) (w : Word) : Host.Outcome State Fault Refusal :=
  match decodeWord w with
  | .instr i => exec i s
  | .reserved => .next (s.trapEntry .ine 0#32)
  | .unspecified => .refused .unspecifiedEncoding

/-- Fetch and run one instruction (R12). -/
def State.fetchAndRun (s : State) : Host.Outcome State Fault Refusal :=
  match s.fetch with
  | .ok (w, t) => t.runWord w
  | .raise e va => .next (s.trapEntry e va)
  | .fault q => .fault q
  | .refuse q => .refused q

/-- What happens at an instruction boundary, after the input event: a waiting core without a pending enabled interrupt goes on
waiting (R491); otherwise it wakes, and an interrupt that CRMD.IE lets through is taken instead of an instruction (R520). -/
def State.boundary (s : State) : Host.Outcome State Fault Refusal :=
  if s.idle ∧ s.pending = 0#13 then .next s
  else
    let s := { s with idle := false }
    if s.ie ∧ s.pending ≠ 0#13 then .next (s.trapEntry .int 0#32) else s.fetchAndRun

/-- One step. -/
def step (s : State) : Host.Outcome State Fault Refusal := s.input.boundary

/-- The physical address the next fetch reads, when there is one. -/
def State.fetchAddress (s : State) : Nat :=
  match s.translate s.pc .fetch with
  | .ok pm => pm.1.toNat
  | _ => s.pc.toNat

/-- The state with the word `w` (bits from `nbits` upward zero) stored where the next step fetches: no store is remembered for
it, and the core does not wait (log 21). -/
def State.withFetchWord (s : State) (nbits w : Nat) : State :=
  { s with
    mem := Memory.write s.mem s.fetchAddress 4 (BitVec.ofNat 32 (w % 2 ^ nbits))
    unseen := Unseen.forget s.unseen s.fetchAddress 4
    idle := false }

end Sys2Proof.Machine
end

