-- ==== Sys2Proof/Safety.lean ====
section
/-!
DEFINITION. The terms statements are made in: the invariant of the machine; what it means that an instruction wrote one
register and nothing else, stored some bytes and nothing else, or committed a floating-point result; and what a correctly
rounded result is (spec/46_fp_arith.md rules R331, R332), said over the real numbers and without the rounding function.
-/
namespace Sys2Proof.Machine

/-- How one instruction or one step ends. -/
abbrev Ending := Host.Outcome State Fault Refusal

/-! ## The invariant -/

/-- The bits of a word outside `m` are zero. -/
def Within (w m : Word) : Prop := w &&& ~~~m = 0#32

/-- The bits of TLBELO0 and TLBELO1 that are fields when a physical address is `palen` bits wide: V, D, PLV, MAT, G in bits 6:0
and PPN in bits PALEN-5:8 (R54). -/
def tlbeloFields (palen : Nat) : Word := lowMask (palen - 4) &&& 0xFFFFFF7F#32

/-- The bits of TCFG that are fields when the timer is `timerBits` wide: En, Periodic and InitVal (R57). -/
def tcfgFields (timerBits : Nat) : Word := lowMask timerBits ||| 3#32

/-- Every reserved bit of a stored CSR reads 0 (R43 to R59), and PLV is 0 or 3 (R44, R550); `indexBits` is the width of
TLBIDX.Index. -/
structure Csrs.Inv (c : Csrs) (indexBits : Nat) (p : Platform) : Prop where
  plv : c.crmd.extractLsb' 0 2 = 0#2 ∨ c.crmd.extractLsb' 0 2 = 3#2
  crmd : Within c.crmd 0x000001FF#32
  prmd : Within c.prmd 0x00000007#32
  euen : Within c.euen 0x00000001#32
  ecfg : Within c.ecfg 0x00001BFF#32
  estat : Within c.estat 0x7FFF0803#32
  eentry : Within c.eentry 0xFFFFFFC0#32
  tlbidx : Within c.tlbidx (lowMask indexBits ||| 0xBF000000#32)
  tlbehi : Within c.tlbehi 0xFFFFE000#32
  tlbelo0 : Within c.tlbelo0 (tlbeloFields p.palen)
  tlbelo1 : Within c.tlbelo1 (tlbeloFields p.palen)
  asid : Within c.asid 0x000003FF#32
  pgdl : Within c.pgdl 0xFFFFF000#32
  pgdh : Within c.pgdh 0xFFFFF000#32
  tcfg : Within c.tcfg (tcfgFields p.timerBits)
  tlbrentry : Within c.tlbrentry 0xFFFFFFC0#32
  dmw0 : Within c.dmw0 0xEE000039#32
  dmw1 : Within c.dmw1 0xEE000039#32

/-- The invariant: memory is in its canonical form (R80), x[0] holds 0 (R21), the reserved bits of fcsr0 and of the CSRs are 0
(R35, R43) and the TLB has a number of entries that TLBIDX.Index can count (R52, R61). -/
structure State.Inv (s : State) : Prop where
  memory : Memory.wf s.mem = true
  zero : s.gpr[0] = 0#32
  fcsr : Within s.fcsr0 0x1F1F031F#32
  csrs : s.csr.Inv s.indexBits s.plat
  tlbSome : 0 < s.tlb.length
  tlbCount : s.tlb.length ≤ 2 ^ 16

/-! ## What one instruction did -/

/-- From `s` to `t`, x[rd] became `v` (a write to x[0] is discarded, R21), the pc became `npc`, and nothing else changed. -/
structure WroteReg (s t : State) (rd : GReg) (v npc : Word) : Prop where
  dest : t.reg rd = if rd = 0#5 then 0#32 else v
  others : ∀ r, r ≠ rd → t.reg r = s.reg r
  pc : t.pc = npc
  bytes : ∀ a, Memory.byte t.mem a = Memory.byte s.mem a
  rest : { t with gpr := s.gpr, pc := s.pc } = s

/-- From `s` to `t`, all of f[fd] became `v`, the pc advanced, and nothing else changed. -/
structure WroteFreg (s t : State) (fd : FReg) (v : DWord) : Prop where
  dest : t.freg fd = v
  others : ∀ r, r ≠ fd → t.freg r = s.freg r
  pc : t.pc = s.pc + 4#32
  bytes : ∀ a, Memory.byte t.mem a = Memory.byte s.mem a
  rest : { t with fpr := s.fpr, pc := s.pc } = s

/-- From `s` to `t`, bits 31:0 of f[fd] became `v`, its bits 63:32 anything (R31), the pc advanced, and nothing else changed
but the count of free values. -/
structure WroteFregLow (s t : State) (fd : FReg) (v : Word) : Prop where
  dest : t.fregLow fd = v
  others : ∀ r, r ≠ fd → t.freg r = s.freg r
  pc : t.pc = s.pc + 4#32
  bytes : ∀ a, Memory.byte t.mem a = Memory.byte s.mem a
  rest : { t with fpr := s.fpr, pc := s.pc, draws := s.draws } = s

/-- From `s` to `t`, c[cd] became `v`, the pc advanced, and nothing else changed. -/
structure WroteCflag (s t : State) (cd : CReg) (v : Bool) : Prop where
  dest : t.cflag cd = v
  others : ∀ c, c ≠ cd → t.cflag c = s.cflag c
  pc : t.pc = s.pc + 4#32
  bytes : ∀ a, Memory.byte t.mem a = Memory.byte s.mem a
  rest : { t with cfr := s.cfr, pc := s.pc } = s

/-- From `s` to `t`, the pc became `npc` and nothing else changed. -/
structure WentTo (s t : State) (npc : Word) : Prop where
  pc : t.pc = npc
  bytes : ∀ a, Memory.byte t.mem a = Memory.byte s.mem a
  rest : { t with pc := s.pc } = s

/-- From `s` to `t`, the `n` bytes from physical address `pa` upward became `v`, least significant byte first (R80), the pc
advanced, and nothing else changed but the record of the stores that a fetch may not see yet (R104), which holds this one. -/
structure Stored (s t : State) (pa n : Nat) (v : BitVec (8 * n)) : Prop where
  stored : ∀ i, i < n → Memory.byte t.mem (pa + i) = v.extractLsb' (8 * i) 8
  others : ∀ a, a < pa ∨ pa + n ≤ a → Memory.byte t.mem a = Memory.byte s.mem a
  pc : t.pc = s.pc + 4#32
  unseen : t.unseen = ⟨true, Memory.cells s.mem pa n⟩ :: s.unseen
  rest : { t with mem := s.mem, unseen := s.unseen, pc := s.pc } = s

/-- The instruction completes with x[rd] set to `v` and goes on at pc + 4. -/
def SetsReg (s : State) (o : Ending) (rd : GReg) (v : Word) : Prop :=
  ∃ t, o = .next t ∧ WroteReg s t rd v (s.pc + 4#32)

/-- The instruction completes with f[fd] set to `v`. -/
def SetsFreg (s : State) (o : Ending) (fd : FReg) (v : DWord) : Prop := ∃ t, o = .next t ∧ WroteFreg s t fd v

/-- The instruction completes with bits 31:0 of f[fd] set to `v`. -/
def SetsFregLow (s : State) (o : Ending) (fd : FReg) (v : Word) : Prop := ∃ t, o = .next t ∧ WroteFregLow s t fd v

/-- The instruction completes with c[cd] set to `v`. -/
def SetsCflag (s : State) (o : Ending) (cd : CReg) (v : Bool) : Prop := ∃ t, o = .next t ∧ WroteCflag s t cd v

/-- The instruction completes, goes on at `npc` and does nothing else. -/
def GoesTo (s : State) (o : Ending) (npc : Word) : Prop := ∃ t, o = .next t ∧ WentTo s t npc

/-- The instruction completes having stored `v` at physical address `pa`. -/
def Stores (s : State) (o : Ending) (pa n : Nat) (v : BitVec (8 * n)) : Prop := ∃ t, o = .next t ∧ Stored s t pa n v

/-- The instruction ends in the trap entry of the exception `e`, which records the address `va` where `e` records one. -/
def Traps (s : State) (o : Ending) (e : Exc) (va : Word) : Prop := o = .next (s.trapEntry e va)

/-- A load or fetch of `n` bytes at the virtual address `va` is aligned, translates to `pa` and is admitted there. -/
structure Readable (s : State) (va : Word) (k : Access) (n : Nat) (pa : Nat) : Prop where
  aligned : va.toNat % n = 0
  translated : ∃ mat, s.translate va k = .ok (BitVec.ofNat 36 pa, mat)
  range : pa < 2 ^ 36
  admitted : s.plat.allows pa n = .ok ()

/-- A store of `n` bytes at `va` is aligned, translates to `pa` and is admitted there. -/
def Writable (s : State) (va : Word) (n : Nat) (pa : Nat) : Prop := Readable s va .store n pa

/-! ## Floating-point results -/

/-- From `old` to `new`, fcsr0.Cause became `e` and fcsr0.Flags accumulated it; Enables, RM and the reserved bits are as before
(R37, R335). -/
structure FcsrCommitted (old new : Word) (e : FpFlags) : Prop where
  cause : new.extractLsb' 24 5 = e
  flags : new.extractLsb' 16 5 = old.extractLsb' 16 5 ||| e
  kept : new &&& 0xE0E0FFFF#32 = old &&& 0xE0E0FFFF#32

/-- The state with another fcsr0. -/
def State.withFcsr (s : State) (w : Word) : State := { s with fcsr0 := w }

/-- A quiet NaN of binary32: exponent all ones, top fraction bit 1 (R330). -/
def IsQuietNaN32 (w : Word) : Prop := w.extractLsb' 22 9 = 0x1FF#9
/-- A quiet NaN of binary64. -/
def IsQuietNaN64 (w : DWord) : Prop := w.extractLsb' 51 12 = 0xFFF#12

/-- The binary32 word a result may be: its number, or any quiet NaN (R333). -/
def FpOut.Allows32 (r : FpOut) (v : Word) : Prop :=
  match r with
  | .num b _ _ => v = BitVec.ofNat 32 b
  | _ => IsQuietNaN32 v

/-- The binary64 word a result may be. -/
def FpOut.Allows64 (r : FpOut) (v : DWord) : Prop :=
  match r with
  | .num b _ _ => v = BitVec.ofNat 64 b
  | _ => IsQuietNaN64 v

/-- An arithmetic instruction completes: exceptions `e` committed and bits 31:0 of f[fd] set to a value that `ok` allows. -/
def CommitsLow (s : State) (o : Ending) (fd : FReg) (e : FpFlags) (ok : Word → Prop) : Prop :=
  ∃ t v, o = .next t ∧ ok v ∧ FcsrCommitted s.fcsr0 t.fcsr0 e ∧ WroteFregLow (s.withFcsr t.fcsr0) t fd v

/-- An arithmetic instruction completes: exceptions `e` committed and f[fd] set to a value that `ok` allows. -/
def CommitsWhole (s : State) (o : Ending) (fd : FReg) (e : FpFlags) (ok : DWord → Prop) : Prop :=
  ∃ t v, o = .next t ∧ ok v ∧ FcsrCommitted s.fcsr0 t.fcsr0 e ∧
    WroteFreg (s.withFcsr t.fcsr0) { t with draws := s.draws } fd v

/-- A comparison completes: exceptions `e` committed and c[cd] set to `v`. -/
def CommitsFlag (s : State) (o : Ending) (cd : CReg) (e : FpFlags) (v : Bool) : Prop :=
  ∃ t, o = .next t ∧ FcsrCommitted s.fcsr0 t.fcsr0 e ∧ WroteCflag (s.withFcsr t.fcsr0) t cd v

/-- No exception of the set is enabled to trap (R335). -/
def State.NoTrap (s : State) (e : FpFlags) : Prop := e &&& s.fpEnables = 0#5

/-- The instruction takes FPE for the exceptions `e`: Cause is `e`, Flags and every destination are as before (R335). -/
def TrapsFpe (s : State) (o : Ending) (e : FpFlags) : Prop :=
  ∃ c : Word, c.extractLsb' 24 5 = e ∧ c &&& 0xE0FFFFFF#32 = s.fcsr0 &&& 0xE0FFFFFF#32 ∧
    o = .next ((s.withFcsr c).trapEntry .fpe 0#32)

/-! ## Numbers -/

/-- The number a finite datum stands for (R330); 0 for the others. -/
def FpVal.rat : FpVal → ℚ
  | .fin neg m q => (if neg then -1 else 1) * (m : ℚ) * (2 : ℚ) ^ q
  | _ => 0

/-- The datum is a finite number. -/
def FpVal.Finite (v : FpVal) : Prop := v.isNan = false ∧ v.isInf = false

/-- A bit pattern of the format that stands for a finite number. -/
def FpFmt.FiniteBits (F : FpFmt) (b : Nat) : Prop := b < 2 ^ (F.prec + F.ebits) ∧ (F.unpack b).Finite

/-- A value one of the format's finite numbers has. -/
def FpFmt.Represents (F : FpFmt) (y : ℚ) : Prop := ∃ b, F.FiniteBits b ∧ (F.unpack b).rat = y

/-- `y` is `x` rounded to the format in a direction, with no limit reached (R331): the nearest number on the side the direction
names, or the nearest one, and of two nearest ones the one whose pattern `b` is even. -/
def FpFmt.Nearest (F : FpFmt) (rd : Rounding) (x : ℝ) (y : ℚ) (b : Nat) : Prop :=
  match rd with
  | .nearestEven => (∀ z, F.Represents z → |x - y| ≤ |x - z|) ∧
      (∀ z, F.Represents z → z ≠ y → |x - z| = |x - y| → b % 2 = 0)
  | .towardZero => |(y : ℝ)| ≤ |x| ∧ ∀ z : ℚ, F.Represents z → |(z : ℝ)| ≤ |x| → |z| ≤ |y|
  | .up => x ≤ y ∧ ∀ z : ℚ, F.Represents z → x ≤ z → y ≤ z
  | .down => (y : ℝ) ≤ x ∧ ∀ z : ℚ, F.Represents z → (z : ℝ) ≤ x → z ≤ y

/-- The largest finite number of the format. -/
def FpFmt.largest (F : FpFmt) : ℚ := (F.unpack (F.infBits - 1)).rat
/-- The first number above the largest that an unbounded exponent would give. -/
def FpFmt.beyond (F : FpFmt) : ℚ := (2 : ℚ) ^ (F.bias + 1)
/-- The smallest normal number of the format. -/
def FpFmt.smallestNormal (F : FpFmt) : ℚ := (2 : ℚ) ^ F.emin

/-- Does rounding `x` in the direction overflow (R332): with an unbounded exponent it would exceed the largest number? -/
def FpFmt.Overflows (F : FpFmt) (rd : Rounding) (x : ℝ) : Prop :=
  match rd with
  | .nearestEven => ((F.largest + F.beyond) / 2 : ℚ) ≤ |x|
  | .towardZero => (F.beyond : ℝ) ≤ |x|
  | .up => (F.largest : ℝ) < x ∨ x ≤ -F.beyond
  | .down => x < -F.largest ∨ (F.beyond : ℝ) ≤ x

/-- The pattern an overflow delivers, by direction and sign (R332). -/
def FpFmt.overflowBits (F : FpFmt) (rd : Rounding) (neg : Bool) : Nat :=
  match rd, neg with
  | .nearestEven, _ => F.withSign neg F.infBits
  | .towardZero, _ => F.withSign neg (F.infBits - 1)
  | .up, false => F.infBits
  | .up, true => F.withSign true (F.infBits - 1)
  | .down, false => F.infBits - 1
  | .down, true => F.withSign true F.infBits

/-- The largest number below the smallest normal one that an unbounded exponent would give. -/
def FpFmt.belowNormal (F : FpFmt) : ℚ := F.smallestNormal - (2 : ℚ) ^ (F.emin - F.prec)

/-- Is `x`, not zero, tiny after rounding (R332, R334): rounded in the direction with an unbounded exponent, is it below the
smallest normal number in magnitude? -/
def FpFmt.TinyAfter (F : FpFmt) (rd : Rounding) (x : ℝ) : Prop :=
  match rd with
  | .nearestEven => |x| < ((F.belowNormal + F.smallestNormal) / 2 : ℚ)
  | .towardZero => |x| < F.smallestNormal
  | .up => -F.smallestNormal < x ∧ x ≤ F.belowNormal
  | .down => -F.belowNormal ≤ x ∧ x < F.smallestNormal

/-- The exceptions `e` of a number `x` for which `y` is delivered without overflow, and whether it is tiny and exact (`te`):
none when y is x; otherwise I, and U exactly when x is tiny as FP.tininess says, so always when y is below the smallest normal
number (R332, R334, R335). -/
structure FpFmt.RightExceptions (F : FpFmt) (rd : Rounding) (x : ℝ) (y : ℚ) (e : FpFlags) (te : Bool) : Prop where
  exact : x = y → e = flagsNone
  tinyExact : te = true ↔ x = y ∧ |x| < F.smallestNormal
  inexact : x ≠ y → e = flagI ∨ (e = flagI ||| flagU ∧ |x| < F.smallestNormal)
  delivered : x ≠ y → |y| < F.smallestNormal → e = flagI ||| flagU
  before : x ≠ y → |x| < F.smallestNormal → Config.tininessAfter = false → e = flagI ||| flagU
  after : x ≠ y → Config.tininessAfter = true → (e = flagI ||| flagU ↔ F.TinyAfter rd x)

/-- The result `r` is the number `x`, not zero, rounded once in the direction `rd`, with the exceptions of R332: overflow (O and
I) with its delivered pattern; otherwise the nearest number with the sign of x and the exceptions of `RightExceptions`. -/
def FpFmt.Correct (F : FpFmt) (rd : Rounding) (x : ℝ) (r : FpOut) : Prop :=
  ∃ b e te, r = .num b e te ∧
    (F.Overflows rd x → e = flagO ||| flagI ∧ te = false ∧
      ∀ neg : Bool, (neg = true ↔ x < 0) → b = F.overflowBits rd neg) ∧
    (¬ F.Overflows rd x → F.FiniteBits b ∧ F.Nearest rd x (F.unpack b).rat b ∧
      (b / F.signBit % 2 = 1 ↔ x < 0) ∧ F.RightExceptions rd x (F.unpack b).rat e te)

/-- `v` is the number `x` rounded to an integer in a direction (R397). -/
def RoundsToInt (rd : Rounding) (x : ℚ) (v : Int) : Prop :=
  match rd with
  | .nearestEven => |x - v| ≤ 1 / 2 ∧ (|x - v| = 1 / 2 → v % 2 = 0)
  | .towardZero => |(v : ℚ)| ≤ |x| ∧ |x| < |(v : ℚ)| + 1 ∧ 0 ≤ x * v
  | .up => x ≤ v ∧ (v : ℚ) < x + 1
  | .down => (v : ℚ) ≤ x ∧ x < v + 1

/-- The word is this instruction and no other word is (R120). -/
def Encodes (w : Word) (i : Instr) : Prop := ∀ w', decodeWord w' = .instr i ↔ w' = w

/-- Every exception with its Ecode and EsubCode (the table of R501). -/
def exceptionCodes : List (Exc × BitVec 6 × BitVec 9) :=
  [(.int, 0x0#6, 0#9), (.pil, 0x1#6, 0#9), (.pis, 0x2#6, 0#9), (.pif, 0x3#6, 0#9), (.pme, 0x4#6, 0#9), (.ppi, 0x7#6, 0#9),
   (.adef, 0x8#6, 0#9), (.adem, 0x8#6, 1#9), (.ale, 0x9#6, 0#9), (.sys, 0xB#6, 0#9), (.brk, 0xC#6, 0#9), (.ine, 0xD#6, 0#9),
   (.ipe, 0xE#6, 0#9), (.fpd, 0xF#6, 0#9), (.fpe, 0x12#6, 0#9), (.tlbr, 0x3F#6, 0#9)]

/-! ## Tables of instructions with what the spec gives each -/

/-- Does an entry match an address space and a virtual page-pair number (R92, R480), said with division? -/
def TlbEntry.Matches (t : TlbEntry) (asid : BitVec 10) (vppn : BitVec 19) : Prop :=
  t.e = true ∧ (t.g = true ∨ t.asid = asid) ∧
    t.vppn.toNat / 2 ^ (t.ps.toNat - 12) = vppn.toNat / 2 ^ (t.ps.toNat - 12)

/-- TLBELO0 or TLBELO1 shows a page and its entry's G bit, the PPN as wide as PALEN makes it (R54). -/
structure ShowsPage (w : Word) (palen : Nat) (p : TlbPage) (g : Bool) : Prop where
  v : w.getLsbD 0 = p.v
  d : w.getLsbD 1 = p.d
  plv : w.extractLsb' 2 2 = p.plv
  mat : w.extractLsb' 4 2 = p.mat
  g : w.getLsbD 6 = g
  ppn : w.toNat / 2 ^ 8 = p.ppn.toNat % 2 ^ (palen - 12)
  reserved : w.getLsbD 7 = false

/-- Does INVTLB select an entry (the table of R485)? -/
def TlbEntry.Selected (t : TlbEntry) (op : BitVec 5) (asid : BitVec 10) (va : Word) : Prop :=
  let vaMatch := t.vppn.toNat / 2 ^ (t.ps.toNat - 12) = va.toNat / 2 ^ 13 / 2 ^ (t.ps.toNat - 12)
  op = 0#5 ∨ op = 1#5 ∨ (op = 2#5 ∧ t.g = true) ∨ (op = 3#5 ∧ t.g = false) ∨
    (op = 4#5 ∧ t.g = false ∧ t.asid = asid) ∨ (op = 5#5 ∧ t.g = false ∧ t.asid = asid ∧ vaMatch) ∨
    (op = 6#5 ∧ (t.g = true ∨ t.asid = asid) ∧ vaMatch)

/-- `v` is one of `x` and `y`, and beside each of them it is the larger (`want` = gt) or the smaller (lt) or equal; with `mag`
by magnitude first, and by value where the magnitudes are equal (spec/46_fp_arith.md section 4). -/
def FpFmt.Selects (F : FpFmt) (want : FpRel) (mag : Bool) (x y v : Nat) : Prop :=
  let a := F.unpack x
  let b := F.unpack y
  let c := F.unpack v
  let byValue := (c.relation a = want ∨ c.relation a = .eq) ∧ (c.relation b = want ∨ c.relation b = .eq)
  (v = x ∨ v = y) ∧
    if mag then
      (c.abs.relation a.abs = want ∨ c.abs.relation a.abs = .eq) ∧
        (c.abs.relation b.abs = want ∨ c.abs.relation b.abs = .eq) ∧ (a.abs.relation b.abs = .eq → byValue)
    else byValue

/-- What FMAX, FMIN, FMAXA, FMINA may deliver: a quiet NaN when an operand is a signaling NaN or both are NaNs, the number
when the other is a quiet NaN, else the selected operand (spec/46_fp_arith.md section 4). -/
def FpFmt.MaxMinAllows (F : FpFmt) (want : FpRel) (mag : Bool) (x y v : Nat) : Prop :=
  let a := F.unpack x
  let b := F.unpack y
  if a.isSnan ∨ b.isSnan ∨ (a.isNan ∧ b.isNan) then F.unpack v = .nan false
  else if a.isNan then v = y
  else if b.isNan then v = x
  else F.Selects want mag x y v

/-- V when an operand is a signaling NaN, else nothing. -/
def snanFlags (a b : FpVal) : FpFlags := if a.isSnan ∨ b.isSnan then flagV else flagsNone

/-- The number of the class of a binary32 datum, by its fields (R376). -/
def fclassSpec32 (w : Word) : Nat :=
  let neg := w.getLsbD 31
  if w.extractLsb' 23 8 = 0xFF#8 then
    if w.extractLsb' 0 23 = 0#23 then (if neg then 2 else 6) else (if w.getLsbD 22 then 1 else 0)
  else if w.extractLsb' 23 8 = 0#8 then
    if w.extractLsb' 0 23 = 0#23 then (if neg then 5 else 9) else (if neg then 4 else 8)
  else (if neg then 3 else 7)

/-- The number of the class of a binary64 datum, by its fields (R377). -/
def fclassSpec64 (w : DWord) : Nat :=
  let neg := w.getLsbD 63
  if w.extractLsb' 52 11 = 0x7FF#11 then
    if w.extractLsb' 0 52 = 0#52 then (if neg then 2 else 6) else (if w.getLsbD 51 then 1 else 0)
  else if w.extractLsb' 52 11 = 0#11 then
    if w.extractLsb' 0 52 = 0#52 then (if neg then 5 else 9) else (if neg then 4 else 8)
  else (if neg then 3 else 7)

/-- The arithmetic instructions with a binary32 result, each with the IEEE operation on its operands that its rule names
(R340 to R355, R368 to R373, R383 to R386). -/
def singleArithmetic (s : State) (fd fj fk fa : FReg) : List (Instr × FpOut) :=
  let m := s.rounding
  let a := fp32 (s.fregLow fj)
  let b := fp32 (s.fregLow fk)
  let c := fp32 (s.fregLow fa)
  let c' := fp32 (s.fregLow fa ^^^ 0x80000000#32)
  [(.faddS fd fj fk, FpFmt.b32.add m a b),
   (.fsubS fd fj fk, FpFmt.b32.sub m a b),
   (.fmulS fd fj fk, FpFmt.b32.mul m a b),
   (.fdivS fd fj fk, FpFmt.b32.div m a b),
   (.fmaddS fd fj fk fa, FpFmt.b32.fma m a b c),
   (.fmsubS fd fj fk fa, FpFmt.b32.fma m a b c'),
   (.fnmaddS fd fj fk fa, FpFmt.b32.negate (FpFmt.b32.fma m a b c)),
   (.fnmsubS fd fj fk fa, FpFmt.b32.negate (FpFmt.b32.fma m a b c')),
   (.fsqrtS fd fj, FpFmt.b32.sqrt m a),
   (.frecipS fd fj, FpFmt.b32.div m .one a),
   (.frsqrtS fd fj, FpFmt.b32.rsqrt m a),
   (.fcvtSD fd fj, FpFmt.b32.convert m (fp64 (s.freg fj))),
   (.ffintSW fd fj, FpFmt.b32.ofInt m (s.fregLow fj).toInt)]

/-- The arithmetic instructions with a binary64 result, each with the IEEE operation on its operands that its rule names
(R340 to R355, R368 to R373, R383 to R386). -/
def doubleArithmetic (s : State) (fd fj fk fa : FReg) : List (Instr × FpOut) :=
  let m := s.rounding
  let a := fp64 (s.freg fj)
  let b := fp64 (s.freg fk)
  let c := fp64 (s.freg fa)
  let c' := fp64 (s.freg fa ^^^ 0x8000000000000000#64)
  [(.faddD fd fj fk, FpFmt.b64.add m a b),
   (.fsubD fd fj fk, FpFmt.b64.sub m a b),
   (.fmulD fd fj fk, FpFmt.b64.mul m a b),
   (.fdivD fd fj fk, FpFmt.b64.div m a b),
   (.fmaddD fd fj fk fa, FpFmt.b64.fma m a b c),
   (.fmsubD fd fj fk fa, FpFmt.b64.fma m a b c'),
   (.fnmaddD fd fj fk fa, FpFmt.b64.negate (FpFmt.b64.fma m a b c)),
   (.fnmsubD fd fj fk fa, FpFmt.b64.negate (FpFmt.b64.fma m a b c')),
   (.fsqrtD fd fj, FpFmt.b64.sqrt m a),
   (.frecipD fd fj, FpFmt.b64.div m .one a),
   (.frsqrtD fd fj, FpFmt.b64.rsqrt m a),
   (.fcvtDS fd fj, FpFmt.b64.convert m (fp32 (s.fregLow fj))),
   (.ffintDW fd fj, FpFmt.b64.ofInt m (s.fregLow fj).toInt)]

/-- The maximum and minimum instructions: which relation they want, and whether by magnitude (R356 to R363). -/
def singleMaxMin (fd fj fk : FReg) : List (Instr × FpRel × Bool) :=
  [(.fmaxS fd fj fk, .gt, false), (.fminS fd fj fk, .lt, false), (.fmaxaS fd fj fk, .gt, true), (.fminaS fd fj fk, .lt, true)]

/-- The maximum and minimum instructions: which relation they want, and whether by magnitude (R356 to R363). -/
def doubleMaxMin (fd fj fk : FReg) : List (Instr × FpRel × Bool) :=
  [(.fmaxD fd fj fk, .gt, false), (.fminD fd fj fk, .lt, false), (.fmaxaD fd fj fk, .gt, true), (.fminaD fd fj fk, .lt, true)]

/-- The rows of the table of R380: under which relations the condition is true, and whether a quiet NaN raises V. -/
def singleCompares (cd : CReg) (fj fk : FReg) : List (Instr × List FpRel × Bool) :=
  [(.fcmpCafS cd fj fk, [], false),
   (.fcmpCunS cd fj fk, [.un], false),
   (.fcmpCeqS cd fj fk, [.eq], false),
   (.fcmpCueqS cd fj fk, [.un, .eq], false),
   (.fcmpCltS cd fj fk, [.lt], false),
   (.fcmpCultS cd fj fk, [.un, .lt], false),
   (.fcmpCleS cd fj fk, [.lt, .eq], false),
   (.fcmpCuleS cd fj fk, [.un, .lt, .eq], false),
   (.fcmpCneS cd fj fk, [.gt, .lt], false),
   (.fcmpCorS cd fj fk, [.gt, .lt, .eq], false),
   (.fcmpCuneS cd fj fk, [.un, .gt, .lt], false),
   (.fcmpSafS cd fj fk, [], true),
   (.fcmpSunS cd fj fk, [.un], true),
   (.fcmpSeqS cd fj fk, [.eq], true),
   (.fcmpSueqS cd fj fk, [.un, .eq], true),
   (.fcmpSltS cd fj fk, [.lt], true),
   (.fcmpSultS cd fj fk, [.un, .lt], true),
   (.fcmpSleS cd fj fk, [.lt, .eq], true),
   (.fcmpSuleS cd fj fk, [.un, .lt, .eq], true),
   (.fcmpSneS cd fj fk, [.gt, .lt], true),
   (.fcmpSorS cd fj fk, [.gt, .lt, .eq], true),
   (.fcmpSuneS cd fj fk, [.un, .gt, .lt], true)]

/-- The rows of the table of R380: under which relations the condition is true, and whether a quiet NaN raises V. -/
def doubleCompares (cd : CReg) (fj fk : FReg) : List (Instr × List FpRel × Bool) :=
  [(.fcmpCafD cd fj fk, [], false),
   (.fcmpCunD cd fj fk, [.un], false),
   (.fcmpCeqD cd fj fk, [.eq], false),
   (.fcmpCueqD cd fj fk, [.un, .eq], false),
   (.fcmpCltD cd fj fk, [.lt], false),
   (.fcmpCultD cd fj fk, [.un, .lt], false),
   (.fcmpCleD cd fj fk, [.lt, .eq], false),
   (.fcmpCuleD cd fj fk, [.un, .lt, .eq], false),
   (.fcmpCneD cd fj fk, [.gt, .lt], false),
   (.fcmpCorD cd fj fk, [.gt, .lt, .eq], false),
   (.fcmpCuneD cd fj fk, [.un, .gt, .lt], false),
   (.fcmpSafD cd fj fk, [], true),
   (.fcmpSunD cd fj fk, [.un], true),
   (.fcmpSeqD cd fj fk, [.eq], true),
   (.fcmpSueqD cd fj fk, [.un, .eq], true),
   (.fcmpSltD cd fj fk, [.lt], true),
   (.fcmpSultD cd fj fk, [.un, .lt], true),
   (.fcmpSleD cd fj fk, [.lt, .eq], true),
   (.fcmpSuleD cd fj fk, [.un, .lt, .eq], true),
   (.fcmpSneD cd fj fk, [.gt, .lt], true),
   (.fcmpSorD cd fj fk, [.gt, .lt, .eq], true),
   (.fcmpSuneD cd fj fk, [.un, .gt, .lt], true)]

/-- The exceptions of a comparison (R381): V for a signaling NaN, and for any NaN under a condition that raises for quiet NaNs. -/
def compareFlags (signals : Bool) (a b : FpVal) : FpFlags :=
  if a.isSnan ∨ b.isSnan ∨ (signals ∧ (a.isNan ∨ b.isNan)) then flagV else flagsNone

/-- The ten conversions to an integer: the direction and the operand (R387 to R396). -/
def intConversions (s : State) (fd fj : FReg) : List (Instr × Rounding × FpVal) :=
  let a := fp32 (s.fregLow fj)
  let b := fp64 (s.freg fj)
  [(.ftintWS fd fj, s.rounding, a), (.ftintWD fd fj, s.rounding, b), (.ftintrmWS fd fj, .down, a), (.ftintrmWD fd fj, .down, b),
   (.ftintrpWS fd fj, .up, a), (.ftintrpWD fd fj, .up, b), (.ftintrzWS fd fj, .towardZero, a), (.ftintrzWD fd fj, .towardZero, b),
   (.ftintrneWS fd fj, .nearestEven, a), (.ftintrneWD fd fj, .nearestEven, b)]

/-- Every floating-point instruction (files 46, 47, 48) with these operands. -/
def fpInstructions (s : State) (fd fj fk fa : FReg) (rd rj : GReg) (cd : CReg) (n : BitVec 5) (si12 : BitVec 12)
    (offs : BitVec 21) : List Instr :=
  List.flatten [
  (singleArithmetic s fd fj fk fa).map (·.1), (doubleArithmetic s fd fj fk fa).map (·.1),
  (singleMaxMin fd fj fk).map (·.1), (doubleMaxMin fd fj fk).map (·.1),
  (singleCompares cd fj fk).map (·.1), (doubleCompares cd fj fk).map (·.1), (intConversions s fd fj).map (·.1),
  [.fabsS fd fj, .fabsD fd fj, .fnegS fd fj, .fnegD fd fj, .fcopysignS fd fj fk, .fcopysignD fd fj fk, .fclassS fd fj,
   .fclassD fd fj, .fmovS fd fj, .fmovD fd fj, .fsel fd fj fk cd, .movgr2frW fd rj, .movgr2frhW fd rj, .movfr2grS rd fj,
   .movfrh2grS rd fj, .movgr2fcsr n rj, .movfcsr2gr rd n, .movfr2cf cd fj, .movcf2fr fd cd, .movgr2cf cd rj, .movcf2gr rd cd,
   .bceqz cd offs, .bcnez cd offs, .fldS fd rj si12, .fldD fd rj si12, .fstS fd rj si12, .fstD fd rj si12]]

/-- Every privileged instruction (file 49) with these operands. -/
def privilegedInstructions (rd rj rk : GReg) (csr : CsrNum) (code : BitVec 5) (si12 : BitVec 12) (level : BitVec 15) :
    List Instr :=
  [.csrrd rd csr, .csrwr rd csr, .csrxchg rd rj csr, .cacop code rj si12, .tlbsrch, .tlbrd, .tlbwr, .tlbfill, .invtlb code rj rk,
   .ertn, .idle level]

/-- The integer loads and stores with their widths and kinds of access, all at the address of R270 (R82). -/
def integerAccesses (rd rj : GReg) (si12 : BitVec 12) : List (Instr × Nat × Access) :=
  [(.ldB rd rj si12, 1, .load), (.ldBu rd rj si12, 1, .load), (.ldH rd rj si12, 2, .load), (.ldHu rd rj si12, 2, .load),
   (.ldW rd rj si12, 4, .load), (.stB rd rj si12, 1, .store), (.stH rd rj si12, 2, .store), (.stW rd rj si12, 4, .store)]

/-- The floating-point loads and stores with their widths and kinds of access, at the same address (R82). -/
def fpAccesses (fd : FReg) (rj : GReg) (si12 : BitVec 12) : List (Instr × Nat × Access) :=
  [(.fldS fd rj si12, 4, .load), (.fldD fd rj si12, 8, .load), (.fstS fd rj si12, 4, .store), (.fstD fd rj si12, 8, .store)]

/-- The loads and stores that get past the check of EUEN.FPE: the integer ones always, the others when it is 1 (R46). -/
def State.enabledAccesses (s : State) (rd : GReg) (fd : FReg) (rj : GReg) (si12 : BitVec 12) : List (Instr × Nat × Access) :=
  integerAccesses rd rj si12 ++ if s.fpe then fpAccesses fd rj si12 else []

/-- The CSRs whose write is plain, each with its writable bits (R44 to R59). -/
def plainCsrs (indexBits palen : Nat) : List (CsrNum × Word) :=
  [(0x1#14, 0x00000007#32), (0x2#14, 0x00000001#32), (0x4#14, 0x00001BFF#32), (0x5#14, 0x00000003#32), (0x6#14, 0xFFFFFFFF#32),
   (0x7#14, 0xFFFFFFFF#32), (0xC#14, 0xFFFFFFC0#32), (0x10#14, 0xBF000000#32 ||| lowMask indexBits), (0x11#14, 0xFFFFE000#32),
   (0x12#14, tlbeloFields palen), (0x13#14, tlbeloFields palen), (0x18#14, 0x000003FF#32), (0x19#14, 0xFFFFF000#32),
   (0x1A#14, 0xFFFFF000#32), (0x30#14, 0xFFFFFFFF#32), (0x31#14, 0xFFFFFFFF#32), (0x32#14, 0xFFFFFFFF#32),
   (0x33#14, 0xFFFFFFFF#32), (0x40#14, 0xFFFFFFFF#32), (0x88#14, 0xFFFFFFC0#32), (0x98#14, 0xFFFFFFFF#32),
   (0x180#14, 0xEE000039#32), (0x181#14, 0xEE000039#32)]

/-- The numbers of the CSRs that exist (R42). -/
def csrNumbers : List CsrNum :=
  [0x0#14, 0x1#14, 0x2#14, 0x4#14, 0x5#14, 0x6#14, 0x7#14, 0xC#14, 0x10#14, 0x11#14, 0x12#14, 0x13#14, 0x18#14, 0x19#14, 0x1A#14,
   0x1B#14, 0x20#14, 0x30#14, 0x31#14, 0x32#14, 0x33#14, 0x40#14, 0x41#14, 0x42#14, 0x44#14, 0x60#14, 0x88#14, 0x98#14, 0x180#14,
   0x181#14]

end Sys2Proof.Machine
end

