-- ==== Sys2Proof/Certificates/Slice0/Obligations.lean ====
section
/-!
DEFINITION. The statements for the provers, O1 to O60 of OBLIGATIONS.json in order. The predicates they use are in
Sys2Proof/Safety.lean.
-/
open Sys2Proof Sys2Proof.Machine

/-- O1, stated: R201, R202, R203, R204, R209, R210. ADD.W, SUB.W, ADDI.W, LU12I.W, PCADDU12I and MUL.W: encoding, the exact
result modulo 2^32, nothing else changed. -/
def Obligations.IntegerArithmeticResults : Prop :=
  ∀ (s : State) (rd rj rk : GReg) (si12 : BitVec 12) (si20 : BitVec 20),
    SetsReg s (exec (.addW rd rj rk) s) rd (BitVec.ofInt 32 ((s.reg rj).toInt + (s.reg rk).toInt)) ∧
    SetsReg s (exec (.subW rd rj rk) s) rd (BitVec.ofInt 32 ((s.reg rj).toInt - (s.reg rk).toInt)) ∧
    SetsReg s (exec (.addiW rd rj si12) s) rd (BitVec.ofInt 32 ((s.reg rj).toInt + si12.toInt)) ∧
    SetsReg s (exec (.lu12iW rd si20) s) rd (BitVec.ofNat 32 (si20.toNat * 2 ^ 12)) ∧
    SetsReg s (exec (.pcaddu12i rd si20) s) rd (BitVec.ofNat 32 (s.pc.toNat + si20.toNat * 2 ^ 12)) ∧
    SetsReg s (exec (.mulW rd rj rk) s) rd (BitVec.ofInt 32 ((s.reg rj).toInt * (s.reg rk).toInt)) ∧
    Encodes (0b00000000000100000#17 ++ rk ++ rj ++ rd) (.addW rd rj rk) ∧
    Encodes (0b00000000000100010#17 ++ rk ++ rj ++ rd) (.subW rd rj rk) ∧
    Encodes (0b0000001010#10 ++ si12 ++ rj ++ rd) (.addiW rd rj si12) ∧
    Encodes (0b0001010#7 ++ si20 ++ rd) (.lu12iW rd si20) ∧
    Encodes (0b0001110#7 ++ si20 ++ rd) (.pcaddu12i rd si20) ∧
    Encodes (0b00000000000111000#17 ++ rk ++ rj ++ rd) (.mulW rd rj rk)

/-- O2, stated: R205, R206, R207, R208. SLT, SLTU, SLTI and SLTUI: encoding, 1 when less and 0 otherwise, nothing else changed. -/
def Obligations.IntegerComparisonResults : Prop :=
  ∀ (s : State) (rd rj rk : GReg) (si12 : BitVec 12),
    SetsReg s (exec (.slt rd rj rk) s) rd (if (s.reg rj).toInt < (s.reg rk).toInt then 1#32 else 0#32) ∧
    SetsReg s (exec (.sltu rd rj rk) s) rd (if (s.reg rj).toNat < (s.reg rk).toNat then 1#32 else 0#32) ∧
    SetsReg s (exec (.slti rd rj si12) s) rd (if (s.reg rj).toInt < si12.toInt then 1#32 else 0#32) ∧
    SetsReg s (exec (.sltui rd rj si12) s) rd
      (if (s.reg rj).toNat < (BitVec.ofInt 32 si12.toInt).toNat then 1#32 else 0#32) ∧
    Encodes (0b00000000000100100#17 ++ rk ++ rj ++ rd) (.slt rd rj rk) ∧
    Encodes (0b00000000000100101#17 ++ rk ++ rj ++ rd) (.sltu rd rj rk) ∧
    Encodes (0b0000001000#10 ++ si12 ++ rj ++ rd) (.slti rd rj si12) ∧
    Encodes (0b0000001001#10 ++ si12 ++ rj ++ rd) (.sltui rd rj si12)

/-- O3, derived: R210, R211, R212, R218. MULH.W over MUL.W is the exact signed 64-bit product, MULH.WU over MUL.W the exact
unsigned one. -/
def Obligations.ProductHalvesAreExact : Prop :=
  ∀ (s : State) (rd rj rk : GReg), ∃ lo hi hiu : Word,
    SetsReg s (exec (.mulW rd rj rk) s) rd lo ∧ SetsReg s (exec (.mulhW rd rj rk) s) rd hi ∧
    SetsReg s (exec (.mulhWu rd rj rk) s) rd hiu ∧
    hi.toInt * 2 ^ 32 + (lo.toNat : Int) = (s.reg rj).toInt * (s.reg rk).toInt ∧
    hiu.toNat * 2 ^ 32 + lo.toNat = (s.reg rj).toNat * (s.reg rk).toNat

/-- O4, derived: R213, R214, R215, R216, R217, R218. DIV.W, MOD.W, DIV.WU and MOD.WU by a divisor that is not 0: quotient toward
zero, remainder of the dividend. -/
def Obligations.DivisionResults : Prop :=
  ∀ (s : State) (rd rj rk : GReg), s.reg rk ≠ 0#32 → ∃ (q r : Int) (qu ru : Nat),
    SetsReg s (exec (.divW rd rj rk) s) rd (BitVec.ofInt 32 q) ∧ SetsReg s (exec (.modW rd rj rk) s) rd (BitVec.ofInt 32 r) ∧
    SetsReg s (exec (.divWu rd rj rk) s) rd (BitVec.ofNat 32 qu) ∧
    SetsReg s (exec (.modWu rd rj rk) s) rd (BitVec.ofNat 32 ru) ∧
    (s.reg rj).toInt = q * (s.reg rk).toInt + r ∧ |r| < |(s.reg rk).toInt| ∧ 0 ≤ r * (s.reg rj).toInt ∧
    (s.reg rj).toNat = qu * (s.reg rk).toNat + ru ∧ ru < (s.reg rk).toNat ∧
    s.reg rk * BitVec.ofInt 32 q + BitVec.ofInt 32 r = s.reg rj ∧
    s.reg rk * BitVec.ofNat 32 qu + BitVec.ofNat 32 ru = s.reg rj

/-- O5, derived: R213, R214, R215, R216, R217. DIV.W, DIV.WU, MOD.W and MOD.WU by 0 complete with some value in x[rd] and change
nothing else. -/
def Obligations.DivisionByZeroCompletes : Prop :=
  ∀ (s : State) (rd rj rk : GReg), s.reg rk = 0#32 →
    ∀ i ∈ [Instr.divW rd rj rk, .divWu rd rj rk, .modW rd rj rk, .modWu rd rj rk],
      ∃ v, SetsReg { s with draws := s.draws + 1 } (exec i s) rd v

/-- O6, derived: R230, R231, R232, R233, R234, R235, R236, R237. AND, OR, NOR, XOR, ANDI, ORI and XORI compute each bit of x[rd]
from the bits of the operands. -/
def Obligations.BitwiseLogicResults : Prop :=
  ∀ (s : State) (rd rj rk : GReg) (ui12 : BitVec 12),
    let a := s.reg rj
    let b := s.reg rk
    (∃ v, SetsReg s (exec (.and rd rj rk) s) rd v ∧ ∀ i < 32, v.getLsbD i = (a.getLsbD i && b.getLsbD i)) ∧
    (∃ v, SetsReg s (exec (.or rd rj rk) s) rd v ∧ ∀ i < 32, v.getLsbD i = (a.getLsbD i || b.getLsbD i)) ∧
    (∃ v, SetsReg s (exec (.nor rd rj rk) s) rd v ∧ ∀ i < 32, v.getLsbD i = !(a.getLsbD i || b.getLsbD i)) ∧
    (∃ v, SetsReg s (exec (.xor rd rj rk) s) rd v ∧ ∀ i < 32, v.getLsbD i = (a.getLsbD i != b.getLsbD i)) ∧
    (∃ v, SetsReg s (exec (.andi rd rj ui12) s) rd v ∧ ∀ i < 32, v.getLsbD i = (a.getLsbD i && ui12.getLsbD i)) ∧
    (∃ v, SetsReg s (exec (.ori rd rj ui12) s) rd v ∧ ∀ i < 32, v.getLsbD i = (a.getLsbD i || ui12.getLsbD i)) ∧
    (∃ v, SetsReg s (exec (.xori rd rj ui12) s) rd v ∧ ∀ i < 32, v.getLsbD i = (a.getLsbD i != ui12.getLsbD i))

/-- O7, stated: R238, R239, R240, R241, R242, R243. The six shifts: encoding, and the product or the floor quotient by 2^s, s
the low 5 bits of rk or ui5. -/
def Obligations.ShiftResults : Prop :=
  ∀ (s : State) (rd rj rk : GReg) (ui5 : BitVec 5),
    let a := s.reg rj
    let n := (s.reg rk).toNat % 32
    SetsReg s (exec (.sllW rd rj rk) s) rd (BitVec.ofNat 32 (a.toNat * 2 ^ n)) ∧
    SetsReg s (exec (.srlW rd rj rk) s) rd (BitVec.ofNat 32 (a.toNat / 2 ^ n)) ∧
    SetsReg s (exec (.sraW rd rj rk) s) rd (BitVec.ofInt 32 (a.toInt / 2 ^ n)) ∧
    SetsReg s (exec (.slliW rd rj ui5) s) rd (BitVec.ofNat 32 (a.toNat * 2 ^ ui5.toNat)) ∧
    SetsReg s (exec (.srliW rd rj ui5) s) rd (BitVec.ofNat 32 (a.toNat / 2 ^ ui5.toNat)) ∧
    SetsReg s (exec (.sraiW rd rj ui5) s) rd (BitVec.ofInt 32 (a.toInt / 2 ^ ui5.toNat)) ∧
    Encodes (0b00000000000101110#17 ++ rk ++ rj ++ rd) (.sllW rd rj rk) ∧
    Encodes (0b00000000000101111#17 ++ rk ++ rj ++ rd) (.srlW rd rj rk) ∧
    Encodes (0b00000000000110000#17 ++ rk ++ rj ++ rd) (.sraW rd rj rk) ∧
    Encodes (0b00000000010000001#17 ++ ui5 ++ rj ++ rd) (.slliW rd rj ui5) ∧
    Encodes (0b00000000010001001#17 ++ ui5 ++ rj ++ rd) (.srliW rd rj ui5) ∧
    Encodes (0b00000000010010001#17 ++ ui5 ++ rj ++ rd) (.sraiW rd rj ui5)

/-- O8, stated: R251, R252, R253, R254, R255, R256. The six conditional branches: encoding, to pc + 4 * offs16 when the
comparison holds, else to pc + 4, nothing else changed. -/
def Obligations.ConditionalBranchTargets : Prop :=
  ∀ (s : State) (rj rd : GReg) (offs16 : BitVec 16),
    let a := s.reg rj
    let b := s.reg rd
    let target := BitVec.ofInt 32 (s.pc.toInt + 4 * offs16.toInt)
    let next := s.pc + 4#32
    GoesTo s (exec (.beq rj rd offs16) s) (if a = b then target else next) ∧
    GoesTo s (exec (.bne rj rd offs16) s) (if a ≠ b then target else next) ∧
    GoesTo s (exec (.blt rj rd offs16) s) (if a.toInt < b.toInt then target else next) ∧
    GoesTo s (exec (.bge rj rd offs16) s) (if b.toInt ≤ a.toInt then target else next) ∧
    GoesTo s (exec (.bltu rj rd offs16) s) (if a.toNat < b.toNat then target else next) ∧
    GoesTo s (exec (.bgeu rj rd offs16) s) (if b.toNat ≤ a.toNat then target else next) ∧
    Encodes (0b010110#6 ++ offs16 ++ rj ++ rd) (.beq rj rd offs16) ∧
    Encodes (0b010111#6 ++ offs16 ++ rj ++ rd) (.bne rj rd offs16) ∧
    Encodes (0b011000#6 ++ offs16 ++ rj ++ rd) (.blt rj rd offs16) ∧
    Encodes (0b011001#6 ++ offs16 ++ rj ++ rd) (.bge rj rd offs16) ∧
    Encodes (0b011010#6 ++ offs16 ++ rj ++ rd) (.bltu rj rd offs16) ∧
    Encodes (0b011011#6 ++ offs16 ++ rj ++ rd) (.bgeu rj rd offs16)

/-- O9, derived: R250, R257, R258, R259, R260, R22. B, BL and JIRL jump and link: B to pc + 4 * offs26, BL also x[1] := pc + 4,
JIRL to the old x[rj] + 4 * offs16. -/
def Obligations.JumpsAndLinks : Prop :=
  ∀ (s : State) (rd rj : GReg) (offs16 : BitVec 16) (offs26 : BitVec 26),
    GoesTo s (exec (.b offs26) s) (BitVec.ofInt 32 (s.pc.toInt + 4 * offs26.toInt)) ∧
    (∃ t, exec (.bl offs26) s = .next t ∧
      WroteReg s t 1#5 (s.pc + 4#32) (BitVec.ofInt 32 (s.pc.toInt + 4 * offs26.toInt))) ∧
    (∃ t, exec (.jirl rd rj offs16) s = .next t ∧
      WroteReg s t rd (s.pc + 4#32) (BitVec.ofInt 32 ((s.reg rj).toInt + 4 * offs16.toInt)))

/-- O10, derived: R80, R84, R270, R271, R272, R273, R274, R275. LD.B, LD.BU, LD.H, LD.HU and LD.W load the little-endian bytes
at the translated address, extended as named. -/
def Obligations.IntegerLoadResults : Prop :=
  ∀ (s : State) (rd rj : GReg) (si12 : BitVec 12) (pa : Nat),
    let va := BitVec.ofInt 32 ((s.reg rj).toInt + si12.toInt)
    let byte := fun i => Memory.byte s.mem (pa + i)
    (Readable s va .load 1 pa →
      SetsReg s (exec (.ldB rd rj si12) s) rd ((byte 0).signExtend 32) ∧
      SetsReg s (exec (.ldBu rd rj si12) s) rd ((byte 0).setWidth 32)) ∧
    (Readable s va .load 2 pa →
      SetsReg s (exec (.ldH rd rj si12) s) rd ((byte 1 ++ byte 0).signExtend 32) ∧
      SetsReg s (exec (.ldHu rd rj si12) s) rd ((byte 1 ++ byte 0).setWidth 32)) ∧
    (Readable s va .load 4 pa →
      SetsReg s (exec (.ldW rd rj si12) s) rd (byte 3 ++ byte 2 ++ byte 1 ++ byte 0))

/-- O11, derived: R80, R85, R270, R276, R277, R278, R104. ST.B, ST.H and ST.W write the low bytes of x[rd] at the translated
address and leave every other byte as it was. -/
def Obligations.IntegerStoreResults : Prop :=
  ∀ (s : State) (rd rj : GReg) (si12 : BitVec 12) (pa : Nat), Memory.wf s.mem = true →
    s.effAddr rj si12 = BitVec.ofInt 32 ((s.reg rj).toInt + si12.toInt) ∧
    (Writable s (s.effAddr rj si12) 1 pa →
      Stores s (exec (.stB rd rj si12) s) pa 1 ((s.reg rd).extractLsb' 0 8)) ∧
    (Writable s (s.effAddr rj si12) 2 pa →
      Stores s (exec (.stH rd rj si12) s) pa 2 ((s.reg rd).extractLsb' 0 16)) ∧
    (Writable s (s.effAddr rj si12) 4 pa → Stores s (exec (.stW rd rj si12) s) pa 4 (s.reg rd))

/-- O12, derived: R31, R80, R84, R85, R437, R438, R439, R440. FLD.S, FLD.D, FST.S and FST.D move the little-endian word or
doubleword at the translated address. -/
def Obligations.FpLoadAndStoreResults : Prop :=
  ∀ (s : State) (fd : FReg) (rj : GReg) (si12 : BitVec 12) (pa : Nat), s.fpe = true → Memory.wf s.mem = true →
    let va := s.effAddr rj si12
    let byte := fun i => Memory.byte s.mem (pa + i)
    (Readable s va .load 4 pa →
      SetsFregLow s (exec (.fldS fd rj si12) s) fd (byte 3 ++ byte 2 ++ byte 1 ++ byte 0)) ∧
    (Readable s va .load 8 pa →
      SetsFreg s (exec (.fldD fd rj si12) s) fd
        (byte 7 ++ byte 6 ++ byte 5 ++ byte 4 ++ byte 3 ++ byte 2 ++ byte 1 ++ byte 0)) ∧
    (Writable s va 4 pa → Stores s (exec (.fstS fd rj si12) s) pa 4 (s.fregLow fd)) ∧
    (Writable s va 8 pa → Stores s (exec (.fstD fd rj si12) s) pa 8 (s.freg fd))

/-- O13, derived: R83, R84, R85, R291, R292. A load, store, LL.W or SC.W whose address is not a multiple of its width raises ALE
with that address, before translation. -/
def Obligations.MisalignedAccessTraps : Prop :=
  ∀ (s : State) (rd rj : GReg) (fd : FReg) (si12 : BitVec 12) (si14 : BitVec 14),
    (∀ p ∈ integerAccesses rd rj si12, (s.effAddr rj si12).toNat % p.2.1 ≠ 0 →
      Traps s (exec p.1 s) .ale (s.effAddr rj si12)) ∧
    (s.fpe = true → ∀ p ∈ fpAccesses fd rj si12, (s.effAddr rj si12).toNat % p.2.1 ≠ 0 →
      Traps s (exec p.1 s) .ale (s.effAddr rj si12)) ∧
    ((s.llAddrOf rj si14).toNat % 4 ≠ 0 →
      Traps s (exec (.llW rd rj si14) s) .ale (s.llAddrOf rj si14) ∧
      Traps s (exec (.scW rd rj si14) s) .ale (s.llAddrOf rj si14))

/-- O14, derived: R84, R85, R88, R90, R92, R270, R291, R292, R470, R94. An aligned load, store, LL.W, SC.W or lookup CACOP that
does not translate takes the exception; stops on no memory (log 26) or a device (log 25). The last clause is the model's
choice and no rule of the spec: the fault addressNotAdmitted and the order of the bytes are log 26 (DESIGN CHOICE), the
refusal of a device is log 25 (DEDUCED). -/
def Obligations.TranslationExceptionsAreTaken : Prop :=
  ∀ (s : State) (rd rj : GReg) (fd : FReg) (si12 : BitVec 12) (si14 : BitVec 14) (code : BitVec 5),
    let ends := fun (o : Ending) (r : Res (PAddr × BitVec 2)) =>
      (∀ e w, r = .raise e w → Traps s o e w) ∧ ∀ q, r = .refuse q → o = .refused q
    (∀ p ∈ s.enabledAccesses rd fd rj si12, (s.effAddr rj si12).toNat % p.2.1 = 0 →
      ends (exec p.1 s) (s.translate (s.effAddr rj si12) p.2.2)) ∧
    ((s.llAddrOf rj si14).toNat % 4 = 0 →
      ends (exec (.llW rd rj si14) s) (s.translate (s.llAddrOf rj si14) .load) ∧
      ends (exec (.scW rd rj si14) s) (s.translate (s.llAddrOf rj si14) .store)) ∧
    (s.plv = 0#2 → code.extractLsb' 3 2 = 2#2 → code.toNat % 8 ≤ 2 →
      ends (exec (.cacop code rj si12) s) (s.translate (s.effAddr rj si12) .load)) ∧
    (∀ p ∈ s.enabledAccesses rd fd rj si12, (s.effAddr rj si12).toNat % p.2.1 = 0 →
      ∀ pa mat, s.translate (s.effAddr rj si12) p.2.2 = .ok (pa, mat) →
        ∀ i < p.2.1, (∀ j < i, s.plat.kindAt (pa.toNat + j) = some .ram) →
          (s.plat.kindAt (pa.toNat + i) = none → exec p.1 s = .fault .addressNotAdmitted) ∧
          (s.plat.kindAt (pa.toNat + i) = some .device → exec p.1 s = .refused .deviceAccess))

/-- O15, derived: R100, R102, R104, R279, R296, R297, R583. PRELD, DBAR, IBAR only advance; a fetch after a store sees the old
or the new word, and after an IBAR this core's last store to each byte. That a fetch may miss a store of the external agent
is the model's choice (log 19, DESIGN CHOICE): R104 says that the source does not say. -/
def Obligations.HintsBarriersAndFetchVisibility : Prop :=
  ∀ (s : State) (pa : Nat),
    (∀ (hint5 : BitVec 5) (rj : GReg) (si12 : BitVec 12) (hint : BitVec 15),
      GoesTo s (exec (.preld hint5 rj si12) s) (s.pc + 4#32) ∧ GoesTo s (exec (.dbar hint) s) (s.pc + 4#32) ∧
      ∃ l, GoesTo { s with unseen := l } (exec (.ibar hint) s) (s.pc + 4#32)) ∧
    (∀ (rd rj : GReg) (si12 : BitVec 12) (hint : BitVec 15) (t u : State), Memory.wf s.mem = true →
      Writable s (s.effAddr rj si12) 4 pa → exec (.stW rd rj si12) s = .next t → exec (.ibar hint) t = .next u →
        (s.unseen = [] → ∀ w, w ∈ t.fetchable pa ↔ w = Memory.read s.mem pa 4 ∨ w = s.reg rd) ∧
        (∀ w, w ∈ u.fetchable pa ↔ w = s.reg rd)) ∧
    (∀ (hint : BitVec 15) (u : State), exec (.ibar hint) s = .next u →
      (∀ i < 4, (∀ l r l', s.unseen = l ++ r :: l' → r.own = false → (r.before.lookup (pa + i)).isSome →
          ∃ q ∈ l, q.own = true ∧ (q.before.lookup (pa + i)).isSome) →
        ∀ w ∈ u.fetchable pa, w.extractLsb' (8 * i) 8 = Memory.byte s.mem (pa + i)) ∧
      ((∀ r ∈ s.unseen, r.own = true) → ∀ w, w ∈ u.fetchable pa ↔ w = Memory.read s.mem pa 4)) ∧
    (∀ c : PAddr × Byte, s.unseen = [] → s.plat.kindAt c.1.toNat = some .ram → pa ≤ c.1.toNat → c.1.toNat < pa + 4 →
      ∀ w, w ∈ (s.externalStore c).fetchable pa ↔
        w = Memory.read s.mem pa 4 ∨ w = Memory.read (s.externalStore c).mem pa 4) ∧
    (s.fetchWord pa).1 ∈ s.fetchable pa ∧ ((s.fetchWord pa).2 = s ∨ (s.fetchWord pa).2 = { s with draws := s.draws + 1 })

/-- O16, derived: R84, R290, R291, R294. LL.W loads the word, sets LLbit and records the physical address. -/
def Obligations.LoadLinkedResult : Prop :=
  ∀ (s : State) (rd rj : GReg) (si14 : BitVec 14) (pa : PAddr),
    let va := BitVec.ofInt 32 ((s.reg rj).toInt + 4 * si14.toInt)
    let byte := fun i => Memory.byte s.mem (pa.toNat + i)
    va.toNat % 4 = 0 → s.translate va .load = .ok (pa, 1#2) → s.plat.allows pa.toNat 4 = .ok () →
      SetsReg { s with llbit := true, llAddr := pa } (exec (.llW rd rj si14) s) rd (byte 3 ++ byte 2 ++ byte 1 ++ byte 0)

/-- O17, derived: R85, R290, R292, R293, R294. SC.W stores x[rd] and returns 1 when LLbit is 1, stores nothing and returns 0
when it is 0; LLbit is then free. -/
def Obligations.StoreConditionalResult : Prop :=
  ∀ (s : State) (rd rj : GReg) (si14 : BitVec 14) (pa : PAddr),
    let va := s.llAddrOf rj si14
    Memory.wf s.mem = true → va.toNat % 4 = 0 → s.translate va .store = .ok (pa, 1#2) →
      va = BitVec.ofInt 32 ((s.reg rj).toInt + 4 * si14.toInt) ∧
      (s.llbit = true → s.llAddr = pa → s.plat.allows pa.toNat 4 = .ok () →
        ∃ t u l n, exec (.scW rd rj si14) s = .next u ∧ Stored s t pa.toNat 4 (s.reg rd) ∧
          WroteReg { t with llbit := l, draws := n } u rd 1#32 (s.pc + 4#32)) ∧
      (s.llbit = false →
        ∃ l n, SetsReg { s with llbit := l, draws := n } (exec (.scW rd rj si14) s) rd 0#32)

/-- O18, derived: R294, R470, R481, R482, R484, R485, R44, R490. The refusals: LL.W, SC.W on memory not Cached, SC.W elsewhere,
and the CACOP, TLB and PLV cases the spec leaves undefined. -/
def Obligations.SpecifiedRefusals : Prop :=
  ∀ (s : State) (rd rj rk : GReg) (si12 : BitVec 12) (si14 : BitVec 14) (op : BitVec 5) (pa : PAddr),
    let va := s.llAddrOf rj si14
    (va.toNat % 4 = 0 → s.translate va .load = .ok (pa, 0#2) → exec (.llW rd rj si14) s = .refused .llscNotCached) ∧
    (va.toNat % 4 = 0 → s.translate va .store = .ok (pa, 0#2) → exec (.scW rd rj si14) s = .refused .llscNotCached) ∧
    (va.toNat % 4 = 0 → s.translate va .store = .ok (pa, 1#2) → s.llbit = true → pa ≠ s.llAddr →
      exec (.scW rd rj si14) s = .refused .scAddressMismatch) ∧
    (s.plv = 0#2 →
      (op.extractLsb' 3 2 = 3#2 ∨ 2 < op.toNat % 8 → exec (.cacop op rj si12) s = .refused .cacopUndefined) ∧
      (s.tlb.length ≤ s.tlbIndex →
        exec .tlbrd s = .refused .tlbIndexOutOfRange ∧ exec .tlbwr s = .refused .tlbIndexOutOfRange) ∧
      (s.ecode = 0x3F#6 ∨ s.tlbNe = false → s.tlbPs ≠ 12#6 → s.tlbPs ∉ s.plat.largePageSizes →
        exec .tlbfill s = .refused .pageSizeIllegal ∧
        (s.tlbIndex < s.tlb.length → exec .tlbwr s = .refused .pageSizeIllegal)) ∧
      (4 ≤ op.toNat → op.toNat ≤ 6 → 2 ^ 10 ≤ (s.reg rj).toNat → exec (.invtlb op rj rk) s = .refused .invtlbAsidBits) ∧
      (s.pplv = 1#2 ∨ s.pplv = 2#2 → exec .ertn s = .refused .illegalPlv) ∧
      ((s.reg rd).extractLsb' 0 2 = 1#2 ∨ (s.reg rd).extractLsb' 0 2 = 2#2 →
        exec (.csrwr rd 0x0#14) s = .refused .illegalPlv) ∧
      (let plv := ((s.csr.crmd &&& ~~~s.reg rj) ||| (s.reg rd &&& s.reg rj)).extractLsb' 0 2
       plv = 1#2 ∨ plv = 2#2 → exec (.csrxchg rd rj 0x0#14) s = .refused .illegalPlv))

/-- O19, derived: R81. A narrow read after a wide write sees the corresponding bytes (little-endian memory). -/
def Obligations.NarrowReadAfterWideWrite : Prop :=
  ∀ (m : List Host.Cell) (a : Nat) (v : BitVec 32) (w : BitVec 64), Memory.wf m = true →
    (a + 4 ≤ 2 ^ 36 →
      Memory.wf (Memory.write m a 4 v) = true ∧ Memory.read (Memory.write m a 4 v) a 1 = v.extractLsb' 0 8 ∧
      Memory.read (Memory.write m a 4 v) (a + 1) 1 = v.extractLsb' 8 8 ∧
      Memory.read (Memory.write m a 4 v) (a + 2) 2 = v.extractLsb' 16 16) ∧
    (a + 8 ≤ 2 ^ 36 →
      Memory.wf (Memory.write m a 8 w) = true ∧ Memory.read (Memory.write m a 8 w) a 4 = w.extractLsb' 0 32 ∧
      Memory.read (Memory.write m a 8 w) (a + 4) 4 = w.extractLsb' 32 32)

/-- O20, derived: R310, R311, R312, R313, R314. SYSCALL and BREAK take SYS and BRK; RDCNTVL.W, RDCNTVH.W and RDCNTID read the
Stable Counter and the Counter ID. -/
def Obligations.SystemCallsAndCounterReads : Prop :=
  ∀ (s : State) (rd : GReg) (code : BitVec 15),
    Traps s (exec (.syscall code) s) .sys 0#32 ∧ Traps s (exec (.brk code) s) .brk 0#32 ∧
    SetsReg s (exec (.rdcntvlW rd) s) rd (BitVec.ofNat 32 (s.stableCounter.toNat % 2 ^ 32)) ∧
    SetsReg s (exec (.rdcntvhW rd) s) rd (BitVec.ofNat 32 (s.stableCounter.toNat / 2 ^ 32)) ∧
    SetsReg s (exec (.rdcntid rd) s) rd s.csr.tid

/-- O21, derived: R501, R530, R531. Trap entry saves PLV, IE and pc, sets PLV 0 and IE 0, records the codes and the address,
enters at the entry address, and changes nothing else. -/
def Obligations.TrapEntryContents : Prop :=
  ∀ (s : State) (e : Exc) (va : Word),
    let t := s.trapEntry e va
    t.csr.prmd.extractLsb' 0 2 = s.plv ∧ t.csr.prmd.getLsbD 2 = s.ie ∧
    t.csr.prmd &&& ~~~0x7#32 = s.csr.prmd &&& ~~~0x7#32 ∧
    t.plv = 0#2 ∧ t.ie = false ∧ t.csr.crmd &&& ~~~0x1F#32 = s.csr.crmd &&& ~~~0x1F#32 ∧
    t.da = (if e = .tlbr then true else s.da) ∧ t.pg = (if e = .tlbr then false else s.pg) ∧
    t.csr.era = s.pc ∧
    (e, t.csr.estat.extractLsb' 16 6, t.csr.estat.extractLsb' 22 9) ∈ exceptionCodes ∧
    t.csr.estat &&& ~~~0x7FFF0000#32 = s.csr.estat &&& ~~~0x7FFF0000#32 ∧
    t.csr.badv = (if e ∈ [.tlbr, .pil, .pis, .pif, .pme, .ppi, .adef, .adem, .ale] then va else s.csr.badv) ∧
    t.csr.tlbehi.extractLsb' 13 19 =
      (if e ∈ [.tlbr, .pil, .pis, .pif, .pme, .ppi] then va.extractLsb' 13 19 else s.csr.tlbehi.extractLsb' 13 19) ∧
    t.csr.tlbehi &&& 0x1FFF#32 = s.csr.tlbehi &&& 0x1FFF#32 ∧
    t.pc = (if e = .tlbr then s.csr.tlbrentry else s.csr.eentry) &&& ~~~0x3F#32 ∧
    { t.csr with prmd := s.csr.prmd, crmd := s.csr.crmd, era := s.csr.era, estat := s.csr.estat, badv := s.csr.badv,
                 tlbehi := s.csr.tlbehi } = s.csr ∧
    { t with pc := s.pc, csr := s.csr } = s

/-- O22, derived: R490, R293. ERTN at PLV 0 restores PLV and IE from PRMD, goes to ERA, clears LLbit unless KLO, and after a
refill returns to mapped mode. -/
def Obligations.ReturnFromExceptionResult : Prop :=
  ∀ s : State, s.plv = 0#2 → s.pplv = 0#2 ∨ s.pplv = 3#2 →
    ∃ t, exec .ertn s = .next t ∧ t.pc = s.csr.era ∧ t.plv = s.pplv ∧ t.ie = s.csr.prmd.getLsbD 2 ∧
      t.da = (if s.ecode = 0x3F#6 then false else s.da) ∧ t.pg = (if s.ecode = 0x3F#6 then true else s.pg) ∧
      t.csr.crmd &&& ~~~0x1F#32 = s.csr.crmd &&& ~~~0x1F#32 ∧
      t.llbit = (if s.csr.klo then s.llbit else false) ∧ t.csr.klo = false ∧
      { t.csr with crmd := s.csr.crmd, klo := s.csr.klo } = s.csr ∧
      { t with pc := s.pc, llbit := s.llbit, csr := s.csr } = s

/-- O23, derived: R491, R520, R521, R555. IDLE waits unless an enabled source is pending; one ends the wait; with CRMD.IE = 1 it
is taken instead of an instruction, ERA the next pc. Two clauses are the model's choice and no rule of the spec: that
nothing happens outside when no input event is to come (log 7, DESIGN CHOICE), and that one step decides the wake-up of IDLE
together with the interrupt or the next instruction (log 24, DESIGN CHOICE). -/
def Obligations.InterruptsAndTheWaitOfIdle : Prop :=
  let pendingIn := fun (u : State) => ∃ i < 13, (u.readCsr .estat).getLsbD i = true ∧ u.csr.ecfg.getLsbD i = true
  (∀ (s : State) (level : BitVec 15), s.plv = 0#2 →
    (¬ pendingIn s → GoesTo { s with idle := true } (exec (.idle level) s) (s.pc + 4#32)) ∧
    (pendingIn s → GoesTo { s with idle := false } (exec (.idle level) s) (s.pc + 4#32))) ∧
  (∀ s : State, s.env = [] → s.input = s) ∧
  (∀ s : State,
    let u := s.input
    let pending := pendingIn u
    (u.idle = true → ¬ pending → step s = .next u) ∧
    (pending → u.ie = true → step s = .next ({ u with idle := false }.trapEntry .int 0#32)) ∧
    (pending → u.ie = false → step s = { u with idle := false }.fetchAndRun) ∧
    (u.idle = false → ¬ pending → step s = u.fetchAndRun))

/-- O24, derived: R86, R88, R90, R92, R104, R128, R129, R510. Fetch: a misaligned pc, one that does not translate, is refused,
is not admitted (log 26) or a device's (log 25); a word that is no instruction. The two clauses about bytes that are not
memory are the model's choices and no rule of the spec: the fault addressNotAdmitted and the order of the bytes are log 26
(DESIGN CHOICE), the refusals are log 25 (DEDUCED). -/
def Obligations.FetchAndDecodeExceptions : Prop :=
  ∀ u : State,
    (u.pc.toNat % 4 ≠ 0 → Traps u u.fetchAndRun .adef u.pc) ∧
    (u.pc.toNat % 4 = 0 →
      (∀ e w, u.translate u.pc .fetch = .raise e w → Traps u u.fetchAndRun e w) ∧
      (∀ q, u.translate u.pc .fetch = .refuse q → u.fetchAndRun = .refused q) ∧
      ∀ pa mat, u.translate u.pc .fetch = .ok (pa, mat) →
        ∀ i < 4, (∀ j < i, u.plat.kindAt (pa.toNat + j) = some .ram) →
          (u.plat.kindAt (pa.toNat + i) = none → u.fetchAndRun = .fault .addressNotAdmitted) ∧
          (u.plat.kindAt (pa.toNat + i) = some .device → u.fetchAndRun = .refused .deviceAccess)) ∧
    (∀ w t, u.fetch = .ok (w, t) →
      (∃ pa mat, u.translate u.pc .fetch = .ok (pa, mat) ∧ w ∈ u.fetchable pa.toNat) ∧
      (t = u ∨ t = { u with draws := u.draws + 1 }) ∧
      (decodeWord w = .reserved → Traps t u.fetchAndRun .ine 0#32) ∧
      (decodeWord w = .unspecified → u.fetchAndRun = .refused .unspecifiedEncoding) ∧
      (∀ i, decodeWord w = .instr i → u.fetchAndRun = exec i t))

/-- O25, derived: R12, R80, R86, R120. A step runs the instruction whose four bytes stand at the physical address of the pc. -/
def Obligations.StepRunsDecodedInstruction : Prop :=
  ∀ (s : State) (i : Instr) (pa : Nat),
    let u := s.input
    let byte := fun k => Memory.byte u.mem (pa + k)
    u.idle = false → (u.ie = false ∨ u.pending = 0#13) → Readable u u.pc .fetch 4 pa →
      (∀ w ∈ u.fetchable pa, w = byte 3 ++ byte 2 ++ byte 1 ++ byte 0) →
      decodeBytes [byte 0, byte 1, byte 2, byte 3] = some (.instr i, []) → i.wellFormed = true →
        step s = exec i u

/-- O26, derived: R460, R510, R550. At any level but PLV 0 each of the eleven privileged instructions raises IPE before any
other effect, whatever its operands. -/
def Obligations.PrivilegedInUserModeTraps : Prop :=
  ∀ (s : State) (rd rj rk : GReg) (csr : CsrNum) (code : BitVec 5) (si12 : BitVec 12) (level : BitVec 15), s.plv ≠ 0#2 →
    ∀ i ∈ privilegedInstructions rd rj rk csr code si12 level, Traps s (exec i s) .ipe 0#32

/-- O27, derived: R461, R464, R42, R40, R48, R55, R56, R58. CSRRD at PLV 0 writes the value of the CSR to x[rd] and changes
nothing else; what each number reads as. That number 0x98 (CTAG) reads as the stored register is the model's choice and no
rule of the spec: log 6 (DESIGN CHOICE). -/
def Obligations.CsrReadValues : Prop :=
  ∀ s : State,
    (∀ (rd : GReg) (n : CsrNum), s.plv = 0#2 → SetsReg s (exec (.csrrd rd n) s) rd (s.csrRead n)) ∧
    s.csrRead 0x0#14 = s.csr.crmd ∧ s.csrRead 0x1#14 = s.csr.prmd ∧ s.csrRead 0x2#14 = s.csr.euen ∧
    s.csrRead 0x4#14 = s.csr.ecfg ∧ s.csrRead 0x6#14 = s.csr.era ∧ s.csrRead 0x7#14 = s.csr.badv ∧
    s.csrRead 0xC#14 = s.csr.eentry ∧ s.csrRead 0x10#14 = s.csr.tlbidx ∧ s.csrRead 0x11#14 = s.csr.tlbehi ∧
    s.csrRead 0x12#14 = s.csr.tlbelo0 ∧ s.csrRead 0x13#14 = s.csr.tlbelo1 ∧ s.csrRead 0x19#14 = s.csr.pgdl ∧
    s.csrRead 0x1A#14 = s.csr.pgdh ∧ s.csrRead 0x30#14 = s.csr.save0 ∧ s.csrRead 0x31#14 = s.csr.save1 ∧
    s.csrRead 0x32#14 = s.csr.save2 ∧ s.csrRead 0x33#14 = s.csr.save3 ∧ s.csrRead 0x40#14 = s.csr.tid ∧
    s.csrRead 0x41#14 = s.csr.tcfg ∧ s.csrRead 0x88#14 = s.csr.tlbrentry ∧ s.csrRead 0x98#14 = s.csr.ctag ∧
    s.csrRead 0x180#14 = s.csr.dmw0 ∧ s.csrRead 0x181#14 = s.csr.dmw1 ∧
    (∀ i < 32, (s.csrRead 0x5#14).getLsbD i =
      (s.csr.estat.getLsbD i || (decide (2 ≤ i ∧ i ≤ 9) && s.hwi.getLsbD (i - 2)) || (decide (i = 12) && s.ipi))) ∧
    s.csrRead 0x18#14 = s.csr.asid ||| 0x000A0000#32 ∧
    s.csrRead 0x1B#14 = (if 2 ^ 31 ≤ s.csr.badv.toNat then s.csr.pgdh else s.csr.pgdl) ∧
    s.csrRead 0x20#14 = BitVec.ofNat 32 s.plat.coreId.toNat ∧ s.csrRead 0x42#14 = s.timer ∧ s.csrRead 0x44#14 = 0#32 ∧
    (∀ i < 32, (s.csrRead 0x60#14).getLsbD i = ((decide (i = 0) && s.llbit) || (decide (i = 2) && s.csr.klo))) ∧
    ∀ n : CsrNum, n ∉ csrNumbers → s.csrRead n = 0#32

/-- O28, derived: R43, R461, R462, R463, R464. CSRWR and CSRXCHG at PLV 0 swap: x[rd] gets the old CSR, the CSR the old x[rd] in
its writable bits under the mask. The row of CTAG (all 32 bits writable and read back) is the model's choice and no rule of
the spec: log 6 (DESIGN CHOICE); the fields of TLBELO0 and TLBELO1 follow the PALEN of the platform, log 10. -/
def Obligations.CsrWriteReplacesMaskedBits : Prop :=
  ∀ (s : State) (rd rj : GReg), s.plv = 0#2 → ∀ p ∈ plainCsrs s.indexBits s.plat.palen,
    let wrote := fun (o : Ending) (m : Word) => ∃ t u, o = .next u ∧
      t.csrRead p.1 = (s.csrRead p.1 &&& ~~~(p.2 &&& m)) ||| (s.reg rd &&& p.2 &&& m) ∧
      (∀ n, n ≠ p.1 → n ≠ 0x1B#14 → t.csrRead n = s.csrRead n) ∧
      { t with csr := s.csr } = s ∧ WroteReg t u rd (s.csrRead p.1) (s.pc + 4#32)
    wrote (exec (.csrwr rd p.1) s) 0xFFFFFFFF#32 ∧ wrote (exec (.csrxchg rd rj p.1) s) (s.reg rj)

/-- O29, derived: 10_state.md R44, R57, R58, 49_privileged.md R462, R463, R464, 60_exceptions.md R551, 10_state.md R40. CSRWR
and CSRXCHG at PLV 0 of CRMD, TCFG, TICLR and LLBCTL, and of the CSRs that ignore writes. When a masked write of TCFG counts
as a write is the model's reading and no rule of the spec: log 16 (DEDUCED); the width of InitVal follows the TIMER_BITS of
the platform, log 10. -/
def Obligations.SpecialCsrWrites : Prop :=
  ∀ (s : State) (rd rj : GReg), s.plv = 0#2 →
    ∀ p ∈ [(fun n : CsrNum => Instr.csrwr rd n, 0xFFFFFFFF#32), (fun n : CsrNum => Instr.csrxchg rd rj n, s.reg rj)],
    let v := s.reg rd
    let m := p.2
    let crmd := (s.csr.crmd &&& ~~~(m &&& 0x1FF#32)) ||| (v &&& m &&& 0x1FF#32)
    let w := m &&& tcfgFields s.plat.timerBits
    let tcfg := (s.csr.tcfg &&& ~~~w) ||| (v &&& w)
    let swaps := fun (n : CsrNum) (t : State) =>
      ∃ u, exec (p.1 n) s = .next u ∧ WroteReg t u rd (s.csrRead n) (s.pc + 4#32)
    (crmd.extractLsb' 0 2 = 0#2 ∨ crmd.extractLsb' 0 2 = 3#2 → swaps 0x0#14 { s with csr := { s.csr with crmd := crmd } }) ∧
    (m = 0#32 → swaps 0x41#14 s) ∧
    (m ≠ 0#32 → tcfg.getLsbD 0 = true → swaps 0x41#14
      { s with csr := { s.csr with tcfg := tcfg }, timer := BitVec.ofNat 32 (tcfg.toNat / 4 * 4), timerRunning := true }) ∧
    (m ≠ 0#32 → tcfg.getLsbD 0 = false → swaps 0x41#14
      { s with csr := { s.csr with tcfg := tcfg }, timerRunning := false }) ∧
    ((v &&& m).getLsbD 0 = true → swaps 0x44#14 { s with csr := { s.csr with estat := s.csr.estat &&& ~~~0x800#32 } }) ∧
    ((v &&& m).getLsbD 0 = false → swaps 0x44#14 s) ∧
    swaps 0x60#14 { s with
      llbit := if (v &&& m).getLsbD 1 then false else s.llbit
      csr := { s.csr with klo := if m.getLsbD 2 then v.getLsbD 2 else s.csr.klo } } ∧
    ∀ n : CsrNum, n ∈ [0x1B#14, 0x20#14, 0x42#14] ∨ n ∉ csrNumbers → swaps n s

/-- O30, derived: R470, R94. CACOP at PLV 0: the indexed operations change only the pc; the lookup one too when its address
translates. -/
def Obligations.CacheOperationsOnlyAdvance : Prop :=
  ∀ (s : State) (code : BitVec 5) (rj : GReg) (si12 : BitVec 12), s.plv = 0#2 → code.toNat % 8 ≤ 2 →
    (code.toNat / 8 ≤ 1 → GoesTo s (exec (.cacop code rj si12) s) (s.pc + 4#32)) ∧
    (code.toNat / 8 = 2 → ∀ pm, s.translate (BitVec.ofInt 32 ((s.reg rj).toInt + si12.toInt)) .load = .ok pm →
      GoesTo s (exec (.cacop code rj si12) s) (s.pc + 4#32))

/-- O31, derived: R480, R92, R52. TLBSRCH at PLV 0: the index of the one matching entry and NE 0, or NE 1 and Index kept;
several matches are refused. -/
def Obligations.TlbSearchResult : Prop :=
  ∀ s : State, s.plv = 0#2 → s.tlb.length ≤ 2 ^ 16 →
    let found := fun (i : Nat) => ∃ e, s.tlb[i]? = some e ∧ e.Matches s.asid (s.csr.tlbehi.extractLsb' 13 19)
    (∀ i, found i → (∀ j, found j → j = i) → ∃ w : Word,
      GoesTo { s with csr := { s.csr with tlbidx := w } } (exec .tlbsrch s) (s.pc + 4#32) ∧
      w.toNat % 2 ^ s.indexBits = i ∧ w.getLsbD 31 = false ∧
      ∀ k < 31, s.indexBits ≤ k → w.getLsbD k = s.csr.tlbidx.getLsbD k) ∧
    ((∀ i, ¬ found i) → ∃ w : Word,
      GoesTo { s with csr := { s.csr with tlbidx := w } } (exec .tlbsrch s) (s.pc + 4#32) ∧
      w.getLsbD 31 = true ∧ ∀ k < 31, w.getLsbD k = s.csr.tlbidx.getLsbD k) ∧
    (∀ i j, found i → found j → i ≠ j → exec .tlbsrch s = .refused .tlbMultipleHit)

/-- O32, derived: R481, R54, R52. TLBRD at PLV 0 shows the entry at TLBIDX.Index in TLBEHI, TLBELO0, TLBELO1, PS and ASID, or
clears them and sets NE. -/
def Obligations.TlbReadResult : Prop :=
  ∀ (s : State) (e : TlbEntry), s.plv = 0#2 → s.tlb[(s.csr.tlbidx &&& lowMask s.indexBits).toNat]? = some e →
    ∃ hi lo0 lo1 asid idx : Word,
      GoesTo { s with csr := { s.csr with tlbehi := hi, tlbelo0 := lo0, tlbelo1 := lo1, asid := asid, tlbidx := idx } }
        (exec .tlbrd s) (s.pc + 4#32) ∧
      (e.e = true → hi.toNat = e.vppn.toNat * 2 ^ 13 ∧ ShowsPage lo0 s.plat.palen e.lo0 e.g ∧ ShowsPage lo1 s.plat.palen e.lo1 e.g ∧
        idx.extractLsb' 24 6 = e.ps ∧ idx.getLsbD 31 = false ∧ asid.extractLsb' 0 10 = e.asid) ∧
      (e.e = false → hi = 0#32 ∧ lo0 = 0#32 ∧ lo1 = 0#32 ∧ idx.extractLsb' 24 6 = 0#6 ∧ idx.getLsbD 31 = true ∧
        asid.extractLsb' 0 10 = 0#10) ∧
      idx &&& ~~~0xBF000000#32 = s.csr.tlbidx &&& ~~~0xBF000000#32 ∧ asid &&& ~~~0x3FF#32 = s.csr.asid &&& ~~~0x3FF#32

/-- O33, derived: R482, R483, R484. TLBWR replaces the entry at TLBIDX.Index, TLBFILL some entry, by the one the TLB CSRs
describe, and change nothing else. That an entry with E = 0 and a page size outside TLB_PAGE_SIZES is written is the model's
choice and no rule of the spec: log 25 (DEDUCED); the width of PPN follows the PALEN of the platform, log 10. -/
def Obligations.TlbWriteAndFillResult : Prop :=
  ∀ (s : State) (e : TlbEntry), s.plv = 0#2 →
    (e.e = true ↔ s.csr.estat.extractLsb' 16 6 = 0x3F#6 ∨ s.csr.tlbidx.getLsbD 31 = false) →
    e.vppn.toNat = s.csr.tlbehi.toNat / 2 ^ 13 → e.ps = s.csr.tlbidx.extractLsb' 24 6 →
    e.asid = s.csr.asid.extractLsb' 0 10 → e.g = (s.csr.tlbelo0.getLsbD 6 && s.csr.tlbelo1.getLsbD 6) →
    ShowsPage (s.csr.tlbelo0 &&& tlbeloFields s.plat.palen) s.plat.palen e.lo0 (s.csr.tlbelo0.getLsbD 6) →
    ShowsPage (s.csr.tlbelo1 &&& tlbeloFields s.plat.palen) s.plat.palen e.lo1 (s.csr.tlbelo1.getLsbD 6) →
    e.lo0.ppn.toNat < 2 ^ (s.plat.palen - 12) → e.lo1.ppn.toNat < 2 ^ (s.plat.palen - 12) →
    (e.e = true → e.ps = 12#6 ∨ e.ps ∈ s.plat.largePageSizes) →
      (∀ i, i = (s.csr.tlbidx &&& lowMask s.indexBits).toNat → i < s.tlb.length →
        GoesTo { s with tlb := s.tlb.set i e } (exec .tlbwr s) (s.pc + 4#32)) ∧
      (0 < s.tlb.length → ∃ i < s.tlb.length,
        GoesTo { s with tlb := s.tlb.set i e, draws := s.draws + 1 } (exec .tlbfill s) (s.pc + 4#32))

/-- O34, derived: R485. INVTLB at PLV 0 clears E of exactly the entries its table selects; an op above 6 raises INE. -/
def Obligations.TlbInvalidateResult : Prop :=
  ∀ (s : State) (op : BitVec 5) (rj rk : GReg), s.plv = 0#2 →
    (op.toNat ≤ 6 → (4 ≤ op.toNat → (s.reg rj).toNat < 2 ^ 10) →
      ∃ l : List TlbEntry, GoesTo { s with tlb := l } (exec (.invtlb op rj rk) s) (s.pc + 4#32) ∧
        l.length = s.tlb.length ∧
        ∀ (i : Nat) (e : TlbEntry), s.tlb[i]? = some e →
          (e.Selected op ((s.reg rj).extractLsb' 0 10) (s.reg rk) → l[i]? = some { e with e := false }) ∧
          (¬ e.Selected op ((s.reg rj).extractLsb' 0 10) (s.reg rk) → l[i]? = some e)) ∧
    (7 ≤ op.toNat → Traps s (exec (.invtlb op rj rk) s) .ine 0#32)

/-- O35, derived: R90, R91, R95, R88. Translation: direct mode, the two windows in order, the address check of user mode, then
the TLB. -/
def Obligations.TranslationModesAndWindows : Prop :=
  ∀ (s : State) (va : Word) (k : Access),
    let hit := fun (w : Word) => va.toNat / 2 ^ 29 = w.toNat / 2 ^ 29 ∧
      ((s.plv = 0#2 ∧ w.getLsbD 0 = true) ∨ (s.plv = 3#2 ∧ w.getLsbD 3 = true))
    let window := fun (w : Word) =>
      (BitVec.ofNat 36 ((w.extractLsb' 25 3).toNat * 2 ^ 29 + va.toNat % 2 ^ 29), w.extractLsb' 4 2)
    (s.da = true → s.pg = false → s.mapAddress va k = .ok (BitVec.ofNat 36 va.toNat, if k = .fetch then s.datf else s.datm)) ∧
    (s.da = false → s.pg = true →
      (hit s.csr.dmw0 → s.mapAddress va k = .ok (window s.csr.dmw0)) ∧
      (¬ hit s.csr.dmw0 → hit s.csr.dmw1 → s.mapAddress va k = .ok (window s.csr.dmw1)) ∧
      (¬ hit s.csr.dmw0 → ¬ hit s.csr.dmw1 →
        (s.plat.adeCheck = true ∧ s.plv = 3#2 ∧ 2 ^ 31 ≤ va.toNat →
          s.mapAddress va k = .raise (if k = .fetch then .adef else .adem) va) ∧
        (¬ (s.plat.adeCheck = true ∧ s.plv = 3#2 ∧ 2 ^ 31 ≤ va.toNat) → s.mapAddress va k = s.tlbTranslate va k))) ∧
    (s.da = s.pg → s.mapAddress va k = .refuse .translationModeUndefined) ∧
    (∀ pa mat, s.mapAddress va k = .ok (pa, mat) →
      s.translate va k = if mat.toNat < 2 then .ok (pa, mat) else .refuse .reservedAccessType) ∧
    (∀ e w, s.mapAddress va k = .raise e w → s.translate va k = .raise e w) ∧
    (∀ r, s.mapAddress va k = .refuse r → s.translate va k = .refuse r)

/-- O36, derived: R92. TLB lookup: no match is TLBR, one match is checked for V, level and D in this order and gives the page's
address and type. -/
def Obligations.TlbTranslationResult : Prop :=
  ∀ (s : State) (va : Word) (k : Access),
    let found := fun (i : Nat) (e : TlbEntry) => s.tlb[i]? = some e ∧ e.Matches s.asid (va.extractLsb' 13 19)
    ((∀ i e, ¬ found i e) → s.tlbTranslate va k = .raise .tlbr va) ∧
    (∀ i e, found i e → (∀ j e', found j e' → j = i) → 12 ≤ e.ps.toNat → e.ps.toNat ≤ 31 →
      let lo := if va.getLsbD e.ps.toNat = false then e.lo0 else e.lo1
      (lo.v = false →
        s.tlbTranslate va k = .raise (match k with | .fetch => .pif | .load => .pil | .store => .pis) va) ∧
      (lo.v = true → lo.plv.toNat < s.plv.toNat → s.tlbTranslate va k = .raise .ppi va) ∧
      (lo.v = true → s.plv.toNat ≤ lo.plv.toNat → k = .store → lo.d = false → s.tlbTranslate va k = .raise .pme va) ∧
      (lo.v = true → s.plv.toNat ≤ lo.plv.toNat → ¬ (k = .store ∧ lo.d = false) →
        s.tlbTranslate va k = .ok (BitVec.ofNat 36 (lo.ppn.toNat / 2 ^ (e.ps.toNat - 12) * 2 ^ e.ps.toNat % 2 ^ s.plat.palen +
          va.toNat % 2 ^ e.ps.toNat), lo.mat))) ∧
    (∀ i j e e', found i e → found j e' → i ≠ j → s.tlbTranslate va k = .refuse .tlbMultipleHit)

/-- O37, derived: 46_fp_arith.md R331 to R335, R340 to R355, R368 to R373, 47_fp_cmp_cvt.md R383 to R386. The 26 arithmetic
floating-point instructions commit the IEEE operation on their operands: value, Cause, Flags, nothing else. -/
def Obligations.FpArithmeticResults : Prop :=
  ∀ (s : State) (fd fj fk fa : FReg),
    (∀ p ∈ [(0#2, Rounding.nearestEven), (1#2, .towardZero), (2#2, .up), (3#2, .down)],
      s.fcsr0.extractLsb' 8 2 = p.1 → s.rounding = p.2) ∧
    (∀ (e : FpFlags) (te : Bool), s.fpExceptions e te =
      if te = true ∧ s.fcsr0.getLsbD 1 = true ∧ Config.underflowTrapExact = true then e ||| flagU else e) ∧
    (s.fpe = true →
    (∀ p ∈ singleArithmetic s fd fj fk fa,
      let e := s.fpExceptions p.2.flags p.2.tinyExact
      s.NoTrap e → CommitsLow s (exec p.1 s) fd e p.2.Allows32) ∧
    (∀ p ∈ doubleArithmetic s fd fj fk fa,
      let e := s.fpExceptions p.2.flags p.2.tinyExact
      s.NoTrap e → CommitsWhole s (exec p.1 s) fd e p.2.Allows64))

/-- O38, derived: 46_fp_arith.md section 4, R356, R357, R358, R359, R360, R361, R362, R363. FMAX, FMIN, FMAXA and FMINA deliver
one of their operands, the larger or smaller, or a quiet NaN. -/
def Obligations.FpMaxMinResults : Prop :=
  ∀ (s : State) (fd fj fk : FReg), s.fpe = true →
    (∀ p ∈ singleMaxMin fd fj fk,
      let e := snanFlags (fp32 (s.fregLow fj)) (fp32 (s.fregLow fk))
      s.NoTrap e → CommitsLow s (exec p.1 s) fd e fun v =>
        FpFmt.b32.MaxMinAllows p.2.1 p.2.2 (s.fregLow fj).toNat (s.fregLow fk).toNat v.toNat) ∧
    (∀ p ∈ doubleMaxMin fd fj fk,
      let e := snanFlags (fp64 (s.freg fj)) (fp64 (s.freg fk))
      s.NoTrap e → CommitsWhole s (exec p.1 s) fd e fun v =>
        FpFmt.b64.MaxMinAllows p.2.1 p.2.2 (s.freg fj).toNat (s.freg fk).toNat v.toNat)

/-- O39, derived: R336, R364, R365, R366, R367, R374, R375, R376, R377. FABS, FNEG and FCOPYSIGN change only the sign bit,
FCLASS writes the one bit of the class; none touches fcsr0. -/
def Obligations.SignAndClassResults : Prop :=
  ∀ (s : State) (fd fj fk : FReg), s.fpe = true →
    let a := s.fregLow fj
    let b := s.freg fj
    let signed32 := fun (v : Word) (sign : Bool) => ∀ i < 32, v.getLsbD i = if i = 31 then sign else a.getLsbD i
    let signed64 := fun (v : DWord) (sign : Bool) => ∀ i < 64, v.getLsbD i = if i = 63 then sign else b.getLsbD i
    (∃ v, SetsFregLow s (exec (.fabsS fd fj) s) fd v ∧ signed32 v false) ∧
    (∃ v, SetsFreg s (exec (.fabsD fd fj) s) fd v ∧ signed64 v false) ∧
    (∃ v, SetsFregLow s (exec (.fnegS fd fj) s) fd v ∧ signed32 v (!a.getLsbD 31)) ∧
    (∃ v, SetsFreg s (exec (.fnegD fd fj) s) fd v ∧ signed64 v (!b.getLsbD 63)) ∧
    (∃ v, SetsFregLow s (exec (.fcopysignS fd fj fk) s) fd v ∧ signed32 v ((s.freg fk).getLsbD 31)) ∧
    (∃ v, SetsFreg s (exec (.fcopysignD fd fj fk) s) fd v ∧ signed64 v ((s.freg fk).getLsbD 63)) ∧
    SetsFregLow s (exec (.fclassS fd fj) s) fd (BitVec.ofNat 32 (2 ^ fclassSpec32 a)) ∧
    SetsFreg s (exec (.fclassD fd fj) s) fd (BitVec.ofNat 64 (2 ^ fclassSpec64 b))

/-- O40, derived: R335, R380, R381, R382. The 44 FCMP instructions write 1 exactly under the relations of their row of the
table, and raise V as it says. -/
def Obligations.CompareResults : Prop :=
  ∀ (s : State) (cd : CReg) (fj fk : FReg), s.fpe = true →
    (∀ p ∈ singleCompares cd fj fk,
      let a := fp32 (s.fregLow fj)
      let b := fp32 (s.fregLow fk)
      let e := compareFlags p.2.2 a b
      s.NoTrap e → CommitsFlag s (exec p.1 s) cd e (decide (a.relation b ∈ p.2.1))) ∧
    (∀ p ∈ doubleCompares cd fj fk,
      let a := fp64 (s.freg fj)
      let b := fp64 (s.freg fk)
      let e := compareFlags p.2.2 a b
      s.NoTrap e → CommitsFlag s (exec p.1 s) cd e (decide (a.relation b ∈ p.2.1)))

/-- O41, derived: R381. The relation of two data is UN with a NaN, and else the order of their values, infinities outermost and
+0 equal to -0. -/
def Obligations.RelationIsByValue : Prop :=
  ∀ a b : FpVal,
    (a.relation b = .un ↔ a.isNan = true ∨ b.isNan = true) ∧
    (a.Finite → b.Finite → (a.relation b = .lt ↔ a.rat < b.rat) ∧ (a.relation b = .eq ↔ a.rat = b.rat) ∧
      (a.relation b = .gt ↔ b.rat < a.rat)) ∧
    (∀ neg, a = .inf neg → (b = .inf neg → a.relation b = .eq) ∧
      (b.Finite ∨ b = .inf (!neg) →
        a.relation b = (if neg then .lt else .gt) ∧ b.relation a = (if neg then .gt else .lt)))

/-- O42, derived: R335, R397, 47_fp_cmp_cvt.md R387 to R396. The ten FTINT instructions round the number in their direction to a
signed 32-bit integer, or raise V. -/
def Obligations.IntegerConversionResults : Prop :=
  ∀ (s : State) (fd fj : FReg), s.fpe = true → ∀ p ∈ intConversions s fd fj,
    let a := p.2.2
    (∀ n : Int, a.Finite → RoundsToInt p.2.1 a.rat n → -2 ^ 31 ≤ n → n ≤ 2 ^ 31 - 1 →
      let e := if a.rat = n then flagsNone else flagI
      s.NoTrap e → CommitsLow s (exec p.1 s) fd e fun v => v = BitVec.ofInt 32 n) ∧
    (¬ a.Finite ∨ (∃ n : Int, RoundsToInt p.2.1 a.rat n ∧ (n < -2 ^ 31 ∨ 2 ^ 31 - 1 < n)) →
      s.NoTrap flagV → CommitsLow s (exec p.1 s) fd flagV fun _ => True)

/-- O43, derived: R420, R421, R422, R423, R424, R425, R426, R31. FMOV, FSEL, MOVGR2FR.W, MOVGR2FRH.W, MOVFR2GR.S and MOVFRH2GR.S
copy bits and touch nothing else. -/
def Obligations.FpMoveResults : Prop :=
  ∀ (s : State) (fd fj fk : FReg) (ca : CReg) (rd rj : GReg), s.fpe = true →
    SetsFregLow s (exec (.fmovS fd fj) s) fd (BitVec.ofNat 32 ((s.freg fj).toNat % 2 ^ 32)) ∧
    SetsFreg s (exec (.fmovD fd fj) s) fd (s.freg fj) ∧
    SetsFreg s (exec (.fsel fd fj fk ca) s) fd (if s.cflag ca = false then s.freg fj else s.freg fk) ∧
    SetsFregLow s (exec (.movgr2frW fd rj) s) fd (s.reg rj) ∧
    SetsFreg s (exec (.movgr2frhW fd rj) s) fd
      (BitVec.ofNat 64 ((s.reg rj).toNat * 2 ^ 32 + (s.freg fd).toNat % 2 ^ 32)) ∧
    SetsReg s (exec (.movfr2grS rd fj) s) rd (BitVec.ofNat 32 ((s.freg fj).toNat % 2 ^ 32)) ∧
    SetsReg s (exec (.movfrh2grS rd fj) s) rd (BitVec.ofNat 32 ((s.freg fj).toNat / 2 ^ 32))

/-- O44, derived: R36, R427, R428, R430. MOVGR2FCSR and MOVFCSR2GR write and read the fields of the FCSR named; FCSR 4 to 31
read and leave free values. -/
def Obligations.FcsrMoveResults : Prop :=
  ∀ (s : State) (rd rj : GReg), s.fpe = true →
    (∀ p ∈ [(0#5, 0x1F1F031F#32), (1#5, 0x0000001F#32), (2#5, 0x1F1F0000#32), (3#5, 0x00000300#32)],
      SetsReg s (exec (.movfcsr2gr rd p.1) s) rd (s.fcsr0 &&& p.2) ∧
      GoesTo (s.withFcsr ((s.fcsr0 &&& ~~~p.2) ||| (s.reg rj &&& p.2))) (exec (.movgr2fcsr p.1 rj) s) (s.pc + 4#32)) ∧
    (∀ n : BitVec 5, 4 ≤ n.toNat →
      (∃ v d, SetsReg { s with draws := d } (exec (.movfcsr2gr rd n) s) rd v) ∧
      (∃ w d, w &&& ~~~0x1F1F031F#32 = s.fcsr0 &&& ~~~0x1F1F031F#32 ∧
        GoesTo { s.withFcsr w with draws := d } (exec (.movgr2fcsr n rj) s) (s.pc + 4#32)))

/-- O45, derived: R431, R432, R433, R434, R435, R436. The four condition-flag moves and BCEQZ, BCNEZ. -/
def Obligations.FlagMovesAndFlagBranches : Prop :=
  ∀ (s : State) (fd fj : FReg) (cd cj : CReg) (rd rj : GReg) (offs21 : BitVec 21), s.fpe = true →
    let target := BitVec.ofInt 32 (s.pc.toInt + 4 * offs21.toInt)
    SetsCflag s (exec (.movfr2cf cd fj) s) cd (decide ((s.freg fj).toNat % 2 = 1)) ∧
    SetsFreg s (exec (.movcf2fr fd cj) s) fd (if s.cflag cj then 1#64 else 0#64) ∧
    SetsCflag s (exec (.movgr2cf cd rj) s) cd (decide ((s.reg rj).toNat % 2 = 1)) ∧
    SetsReg s (exec (.movcf2gr rd cj) s) rd (if s.cflag cj then 1#32 else 0#32) ∧
    GoesTo s (exec (.bceqz cj offs21) s) (if s.cflag cj = false then target else s.pc + 4#32) ∧
    GoesTo s (exec (.bcnez cj offs21) s) (if s.cflag cj = true then target else s.pc + 4#32)

/-- O46, derived: R46, R335, R502. With EUEN.FPE = 0 every floating-point instruction, arithmetic or not, ends in the trap entry
of FPD. -/
def Obligations.FpDisabledTraps : Prop :=
  ∀ (s : State) (fd fj fk fa : FReg) (rd rj : GReg) (cd : CReg) (n : BitVec 5) (si12 : BitVec 12) (offs : BitVec 21),
    s.fpe = false → ∀ i ∈ fpInstructions s fd fj fk fa rd rj cd n si12 offs, Traps s (exec i s) .fpd 0#32

/-- O47, derived: R335, R37, R381, R397. An arithmetic floating-point instruction that raises an enabled exception takes FPE:
Cause written, Flags and destination kept. -/
def Obligations.FpEnabledExceptionTraps : Prop :=
  ∀ (s : State) (fd fj fk fa : FReg) (cd : CReg), s.fpe = true →
    let a := fp32 (s.fregLow fj)
    let b := fp32 (s.fregLow fk)
    let c := fp64 (s.freg fj)
    let d := fp64 (s.freg fk)
    (∀ p ∈ singleArithmetic s fd fj fk fa ++ doubleArithmetic s fd fj fk fa,
      let e := s.fpExceptions p.2.flags p.2.tinyExact
      ¬ s.NoTrap e → TrapsFpe s (exec p.1 s) e) ∧
    (∀ p ∈ singleMaxMin fd fj fk, ¬ s.NoTrap (snanFlags a b) → TrapsFpe s (exec p.1 s) (snanFlags a b)) ∧
    (∀ p ∈ doubleMaxMin fd fj fk, ¬ s.NoTrap (snanFlags c d) → TrapsFpe s (exec p.1 s) (snanFlags c d)) ∧
    (∀ p ∈ singleCompares cd fj fk,
      ¬ s.NoTrap (compareFlags p.2.2 a b) → TrapsFpe s (exec p.1 s) (compareFlags p.2.2 a b)) ∧
    (∀ p ∈ doubleCompares cd fj fk,
      ¬ s.NoTrap (compareFlags p.2.2 c d) → TrapsFpe s (exec p.1 s) (compareFlags p.2.2 c d)) ∧
    (∀ p ∈ intConversions s fd fj,
      let e := match p.2.2.toSint32 p.2.1 with | some r => r.2 | none => flagV
      ¬ s.NoTrap e → TrapsFpe s (exec p.1 s) e)

/-- O48, derived: R331, R332, R334. Rounding an exact number once gives the correctly rounded result with the exceptions of the
IEEE table, in both formats. -/
def Obligations.RoundingIsCorrect : Prop :=
  ∀ (F : FpFmt) (rd : Rounding) (neg : Bool) (m : Nat) (q : Int), F = FpFmt.b32 ∨ F = FpFmt.b64 → 0 < m →
    F.Correct rd (((FpVal.fin neg m q).rat : ℚ) : ℝ) (F.round rd neg m q)

/-- O49, derived: R331, R332, R340, R342, R344, R346, R348. The sum, product, quotient and fused product-sum of finite numbers
are the exact ones rounded once; signs of exact zeros. -/
def Obligations.SumProductQuotientAreCorrect : Prop :=
  ∀ (F : FpFmt) (rd : Rounding) (s1 s2 s3 : Bool) (m1 m2 m3 : Nat) (q1 q2 q3 : Int), F = FpFmt.b32 ∨ F = FpFmt.b64 →
    let x := FpVal.fin s1 m1 q1
    let y := FpVal.fin s2 m2 q2
    let z := FpVal.fin s3 m3 q3
    let zero := fun (neg : Bool) => FpOut.num (F.withSign neg 0) flagsNone false
    let zeroSum := fun (a b : Bool) => zero (if a = b then a else decide (rd = .down))
    (x.rat + y.rat ≠ 0 → F.Correct rd ((x.rat + y.rat : ℚ) : ℝ) (F.add rd x y)) ∧
    (x.rat + y.rat = 0 → F.add rd x y = zeroSum s1 s2) ∧
    (x.rat - y.rat ≠ 0 → F.Correct rd ((x.rat - y.rat : ℚ) : ℝ) (F.sub rd x y)) ∧
    (x.rat - y.rat = 0 → F.sub rd x y = zeroSum s1 (!s2)) ∧
    (x.rat * y.rat ≠ 0 → F.Correct rd ((x.rat * y.rat : ℚ) : ℝ) (F.mul rd x y)) ∧
    (x.rat * y.rat = 0 → F.mul rd x y = zero (s1 != s2)) ∧
    (x.rat ≠ 0 → y.rat ≠ 0 → F.Correct rd ((x.rat / y.rat : ℚ) : ℝ) (F.div rd x y)) ∧
    (x.rat = 0 → y.rat ≠ 0 → F.div rd x y = zero (s1 != s2)) ∧
    (x.rat * y.rat + z.rat ≠ 0 → F.Correct rd ((x.rat * y.rat + z.rat : ℚ) : ℝ) (F.fma rd x y z)) ∧
    (x.rat * y.rat + z.rat = 0 → F.fma rd x y z = zeroSum (s1 != s2) s3)

/-- O50, derived: R331, R332, R368, R372, R334. The square root and the reciprocal square root rounded once are the exact real
ones, correctly rounded; FRSQRT is as FP.rsqrtDouble says. -/
def Obligations.RootsAreCorrect : Prop :=
  ∀ (F : FpFmt) (rd : Rounding) (m : Nat) (q : Int), F = FpFmt.b32 ∨ F = FpFmt.b64 → 0 < m →
    let x := FpVal.fin false m q
    F.Correct rd (Real.sqrt (x.rat : ℝ)) (F.sqrt rd x) ∧
    F.Correct rd (1 / Real.sqrt (x.rat : ℝ)) (F.rsqrtOnce rd x) ∧
    (Config.rsqrtDouble = false → F.rsqrt rd x = F.rsqrtOnce rd x) ∧
    (Config.rsqrtDouble = true → ∃ b e te, F.sqrt rd x = .num b e te ∧
      F.rsqrt rd x = (F.div rd (.fin false 1 0) (F.unpack b)).withFlags e)

/-- O51, derived: R332, R333, R340, R342, R344, R346, R348, R352, R368, R372. Operations on infinities, zeros and NaNs, fused
and reciprocal root too: the invalid cases, divisions by zero, results without exception; negation. Which NaN FRSQRT of a
negative number delivers under FP.rsqrtDouble is log 12 (DESIGN CHOICE); the statement leaves it open. -/
def Obligations.SpecialOperandResults : Prop :=
  ∀ (F : FpFmt) (rd : Rounding) (s t u : Bool) (m m' m'' : Nat) (q q' q'' : Int) (a b c : FpVal),
    F = FpFmt.b32 ∨ F = FpFmt.b64 →
    let inf := fun (neg : Bool) => FpOut.num (F.withSign neg F.infBits) flagsNone false
    let zero := fun (neg : Bool) => FpOut.num (F.withSign neg 0) flagsNone false
    let invalid := FpOut.defaultNaN flagV
    let nan := fun (v : Bool) => FpOut.nanOf (if v then flagV else flagsNone)
    let x := FpVal.fin t m q
    let y := FpVal.fin s m' q'
    let z := FpVal.fin u m'' q''
    (F.add rd (.inf s) (.inf !s) = invalid ∧ F.sub rd (.inf s) (.inf s) = invalid ∧
      F.add rd (.inf s) (.inf s) = inf s ∧ F.sub rd (.inf s) (.inf !s) = inf s ∧
      F.add rd (.inf s) x = inf s ∧ F.add rd x (.inf s) = inf s ∧
      F.sub rd (.inf s) x = inf s ∧ F.sub rd x (.inf s) = inf (!s)) ∧
    (F.mul rd (.fin s 0 q) (.inf t) = invalid ∧ F.mul rd (.inf s) (.fin t 0 q) = invalid ∧
      F.mul rd (.inf s) (.inf t) = inf (s != t) ∧
      (0 < m → F.mul rd (.inf s) x = inf (s != t) ∧ F.mul rd x (.inf s) = inf (s != t))) ∧
    (F.div rd (.fin s 0 q) (.fin t 0 q') = invalid ∧ F.div rd (.inf s) (.inf t) = invalid ∧
      (0 < m → F.div rd x (.fin s 0 q') = .num (F.withSign (s != t) F.infBits) flagZ false) ∧
      F.div rd (.inf s) x = inf (s != t) ∧ F.div rd x (.inf s) = zero (s != t)) ∧
    ((0 < m → F.sqrt rd (.fin true m q) = invalid) ∧ F.sqrt rd (.inf true) = invalid ∧
      F.sqrt rd (.fin s 0 q) = zero s ∧ F.sqrt rd (.inf false) = inf false ∧ F.sqrt rd (.nan s) = nan s) ∧
    ((0 < m → F.rsqrt rd (.fin true m q) = invalid ∨ F.rsqrt rd (.fin true m q) = nan true) ∧
      (F.rsqrt rd (.inf true) = invalid ∨ F.rsqrt rd (.inf true) = nan true) ∧
      F.rsqrt rd (.fin s 0 q) = .num (F.withSign s F.infBits) flagZ false ∧
      F.rsqrt rd (.inf false) = zero false ∧ F.rsqrt rd (.nan s) = nan s) ∧
    (∀ op ∈ [F.add rd, F.sub rd, F.mul rd, F.div rd],
      op (.nan s) b = nan (s || b.isSnan) ∧ op b (.nan s) = nan (s || b.isSnan)) ∧
    (a.isSnan ∨ b.isSnan ∨ c.isSnan → F.fma rd a b c = nan true) ∧
    (¬ (a.isSnan ∨ b.isSnan ∨ c.isSnan) → a.isNan ∨ b.isNan → F.fma rd a b c = nan false) ∧
    (¬ c.isSnan →
      (c.isNan → F.fma rd (.fin s 0 q) (.inf t) c = nan Config.fmaInvalidWithQNaNAddend ∧
        F.fma rd (.inf s) (.fin t 0 q) c = nan Config.fmaInvalidWithQNaNAddend) ∧
      (¬ c.isNan → F.fma rd (.fin s 0 q) (.inf t) c = invalid ∧ F.fma rd (.inf s) (.fin t 0 q) c = invalid) ∧
      (c.isNan → F.fma rd x y c = nan false ∧ F.fma rd (.inf s) (.inf t) c = nan false ∧
        (0 < m → F.fma rd (.inf s) x c = nan false ∧ F.fma rd x (.inf s) c = nan false))) ∧
    (0 < m → ∀ p ∈ [(FpVal.inf s, FpVal.inf t), (.inf s, x), (x, .inf s)],
      F.fma rd p.1 p.2 (.inf (s != t)) = inf (s != t) ∧ F.fma rd p.1 p.2 (.inf !(s != t)) = invalid ∧
      F.fma rd p.1 p.2 z = inf (s != t)) ∧
    F.fma rd x y (.inf u) = inf u ∧
    (∀ (neg : Bool) (n : Nat) (e : FpFlags) (te : Bool), n < F.signBit →
      F.negate (.num (F.withSign neg n) e te) = .num (F.withSign (!neg) n) e te) ∧
    (∀ e : FpFlags, F.negate (.defaultNaN e) = .nanOf e ∧ F.negate (.nanOf e) = .nanOf e)

/-- O52, derived: R331, R332, R333, R383, R384, R385, R386. FCVT.D.S and FFINT.D.W are exact, FCVT.S.D and FFINT.S.W the number
rounded once; zeros and infinities keep their sign, a NaN gives a quiet NaN. -/
def Obligations.ConversionsAreExactOrRoundedOnce : Prop :=
  ∀ (rd : Rounding) (w : Word) (d : DWord),
    ((fp32 w).Finite → ∃ b, FpFmt.b64.convert rd (fp32 w) = .num b flagsNone false ∧ FpFmt.b64.FiniteBits b ∧
      (FpFmt.b64.unpack b).rat = (fp32 w).rat ∧ (b / 2 ^ 63 = 1 ↔ w.getLsbD 31 = true)) ∧
    (∃ b, FpFmt.b64.ofInt rd w.toInt = .num b flagsNone false ∧ FpFmt.b64.FiniteBits b ∧
      (FpFmt.b64.unpack b).rat = (w.toInt : ℚ)) ∧
    (w = 0#32 → FpFmt.b64.ofInt rd w.toInt = .num 0 flagsNone false) ∧
    ((fp64 d).Finite → (fp64 d).rat ≠ 0 →
      FpFmt.b32.Correct rd (((fp64 d).rat : ℚ) : ℝ) (FpFmt.b32.convert rd (fp64 d))) ∧
    ((fp64 d).Finite → (fp64 d).rat = 0 →
      FpFmt.b32.convert rd (fp64 d) = .num (FpFmt.b32.withSign (d.getLsbD 63) 0) flagsNone false) ∧
    (w ≠ 0#32 → FpFmt.b32.Correct rd (w.toInt : ℝ) (FpFmt.b32.ofInt rd w.toInt) ∧
      ((FpFmt.b32.ofInt rd w.toInt).flags = flagsNone ∨ (FpFmt.b32.ofInt rd w.toInt).flags = flagI)) ∧
    (w = 0#32 → FpFmt.b32.ofInt rd w.toInt = .num 0 flagsNone false) ∧
    (∀ neg, (fp32 w = .inf neg →
        FpFmt.b64.convert rd (fp32 w) = .num (FpFmt.b64.withSign neg FpFmt.b64.infBits) flagsNone false) ∧
      (fp64 d = .inf neg →
        FpFmt.b32.convert rd (fp64 d) = .num (FpFmt.b32.withSign neg FpFmt.b32.infBits) flagsNone false)) ∧
    (∀ signaling, (fp32 w = .nan signaling → FpFmt.b64.convert rd (fp32 w) = .nanOf (if signaling then flagV else flagsNone)) ∧
      (fp64 d = .nan signaling → FpFmt.b32.convert rd (fp64 d) = .nanOf (if signaling then flagV else flagsNone))) ∧
    (∀ (op : FpOp) (args : List DWord) (e : FpFlags),
      IsQuietNaN32 ((FpOut.nanOf e).word op args) ∧ IsQuietNaN64 ((FpOut.nanOf e).dword op args))

/-- O53, derived: 30_encoding.md R120 to R130. Decoding the word of a well-formed instruction gives it back, for every
instruction and every operand. -/
def Obligations.DecodeOfEncode : Prop :=
  ∀ i : Instr, i.wellFormed = true →
    decodeWord (encode i) = .instr i ∧ decodeBytes (bytesOfWord (encode i)) = some (.instr i, [])

/-- O54, derived: 30_encoding.md R120 to R130. Every word that decodes to an instruction is the word the encoder writes for it,
and the instruction is well-formed. -/
def Obligations.EncodeOfDecode : Prop :=
  ∀ (w : Word) (i : Instr), decodeWord w = .instr i → i.wellFormed = true ∧ encode i = w

/-- O55, derived: R128, R130, R201, R203, R251, R259, R278, R291, R348, R381, R436, R485. Words the spec writes out decode to
the instructions it says they are. -/
def Obligations.ListedWordsDecode : Prop :=
  decodeWord 0x001018A4#32 = .instr (.addW 4#5 5#5 6#5) ∧ decodeWord 0x02BFFCA4#32 = .instr (.addiW 4#5 5#5 0xFFF#12) ∧
  decodeWord 0x58001085#32 = .instr (.beq 4#5 5#5 4#16) ∧ decodeWord 0x4C000020#32 = .instr (.jirl 0#5 1#5 0#16) ∧
  decodeWord 0x298000A4#32 = .instr (.stW 4#5 5#5 0#12) ∧ decodeWord 0x200000A4#32 = .instr (.llW 4#5 5#5 0#14) ∧
  decodeWord 0x002B0011#32 = .instr (.syscall 0x11#15) ∧ decodeWord 0x08120C41#32 = .instr (.fmaddS 1#5 2#5 3#5 4#5) ∧
  decodeWord 0x0C110C41#32 = .instr (.fcmpCltS 1#3 2#5 3#5) ∧ decodeWord 0x4BFFF93F#32 = .instr (.bcnez 1#3 0x1FFFFE#21) ∧
  decodeWord 0x04003024#32 = .instr (.csrwr 4#5 0xC#14) ∧ decodeWord 0x040001AC#32 = .instr (.csrxchg 12#5 13#5 0#14) ∧
  decodeWord 0x064998A5#32 = .instr (.invtlb 5#5 5#5 6#5) ∧ decodeWord 0x00006000#32 = .instr (.rdcntvlW 0#5) ∧
  decodeWord 0x00000000#32 = .reserved ∧ decodeWord 0x0C190C41#32 = .reserved

/-- O56, derived: R21, R35, R43, R52, R70, R80, R550. Every step keeps the invariant: canonical memory, x[0] = 0, reserved bits
0, PLV 0 or 3, the TLB countable by Index. -/
def Obligations.InvariantIsKept : Prop :=
  ∀ s t : State, s.Inv → step s = .next t → t.Inv

/-- O57, derived: R21, R43, R70. The state after reset has the invariant. -/
def Obligations.InvariantHoldsAtReset : Prop :=
  State.reset.Inv

/-- O58, derived: R460, R530, R550. At PLV 3 no instruction changes a CSR, the TLB, the timer or the counter, except by the trap
entry of an exception. -/
def Obligations.UserModeIsConfined : Prop :=
  ∀ (i : Instr) (s t : State), s.plv = 3#2 → exec i s = .next t →
    (t.csr = s.csr ∨ ∃ e va, t.csr = (s.trapEntry e va).csr ∧ t.pc = (s.trapEntry e va).pc ∧ t.plv = 0#2) ∧
    t.tlb = s.tlb ∧ t.timer = s.timer ∧ t.timerRunning = s.timerRunning ∧ t.stableCounter = s.stableCounter ∧
    t.hwi = s.hwi ∧ t.ipi = s.ipi ∧ t.idle = s.idle ∧ t.plat = s.plat ∧ t.env = s.env

/-- O59, derived: 60_exceptions.md R551, R63, R64, R100, R293, R315, R571. Many counting clocks are as many single ones; an
input event moves the counter and lines, stores, and clears LLbit for its line. That the outside acts between two
instructions, by events of a list in State, is the model's choice (log 7, DESIGN CHOICE). -/
def Obligations.CountingClocksAndInputEvents : Prop :=
  ∀ s : State,
    (∀ k : Nat, s.timerClocks k = State.timerClock^[k] s) ∧
    (s.timerRunning = false → s.timerClock = s) ∧
    (s.timerRunning = true → s.timer ≠ 0#32 → s.timerClock = { s with timer := BitVec.ofNat 32 (s.timer.toNat - 1) }) ∧
    (s.timerRunning = true → s.timer = 0#32 →
      s.timerClock.csr = { s.csr with estat := s.csr.estat ||| 0x800#32 } ∧
      (s.csr.tcfg.getLsbD 1 = true →
        s.timerClock.timer = BitVec.ofNat 32 (s.csr.tcfg.toNat / 4 * 4) ∧ s.timerClock.timerRunning = true) ∧
      (s.csr.tcfg.getLsbD 1 = false → s.timerClock.timer = 0#32 ∧ s.timerClock.timerRunning = false))
  ∧ ∀ (ev : EnvEvent) (rest : List EnvEvent), s.env = ev :: rest →
      (ev.reset = true → s.input = { s.afterReset with env := { ev with reset := false } :: rest }.input) ∧
      (ev.reset = false →
        let u := s.input
        let toLine := ∃ c ∈ ev.stores, s.plat.kindAt c.1.toNat = some .ram ∧
          c.1.toNat / 2 ^ s.plat.cacheLineLog2 = s.llAddr.toNat / 2 ^ s.plat.cacheLineLog2
        u.env = rest ∧ u.stableCounter = BitVec.ofNat 64 (s.stableCounter.toNat + ev.ticks) ∧ u.hwi = ev.hwi ∧ u.ipi = ev.ipi ∧
        u.timer = (s.timerClocks ev.ticks).timer ∧ u.timerRunning = (s.timerClocks ev.ticks).timerRunning ∧
        u.csr = (s.timerClocks ev.ticks).csr ∧
        (toLine → u.llbit = false) ∧ (ev.clearLL = true → u.llbit = false) ∧
        (¬ toLine → ev.clearLL = false → u.llbit = s.llbit) ∧
        (Memory.wf s.mem = true → ∀ a, Memory.byte u.mem a =
          match s.plat.kindAt a, ev.stores.reverse.find? (fun c => c.1.toNat == a) with
          | some .ram, some c => c.2
          | _, _ => Memory.byte s.mem a) ∧
        { u with env := s.env, stableCounter := s.stableCounter, hwi := s.hwi, ipi := s.ipi, timer := s.timer,
                 timerRunning := s.timerRunning, csr := s.csr, llbit := s.llbit, mem := s.mem, unseen := s.unseen } = s)

/-- O60, derived: R70, R571. Reset: pc 0x1C000000, CRMD 0x8, the fields the spec resets are 0, TID is COREID, the Stable Counter
is 0, no wait. -/
def Obligations.ResetLeavesTheStatedValues : Prop :=
  ∀ s : State, ∀ r ∈ [State.reset, s.afterReset],
    r.pc = 0x1C000000#32 ∧ r.reg 0#5 = 0#32 ∧ r.csr.crmd = 0x00000008#32 ∧ r.csr.euen.getLsbD 0 = false ∧
    r.csr.ecfg &&& 0x1BFF#32 = 0#32 ∧ r.csr.estat &&& 0x803#32 = 0#32 ∧ r.csr.tcfg.getLsbD 0 = false ∧
    r.csr.klo = false ∧ r.llbit = false ∧ r.csr.dmw0 &&& 0x9#32 = 0#32 ∧ r.csr.dmw1 &&& 0x9#32 = 0#32 ∧
    r.csr.tid = BitVec.ofNat 32 r.plat.coreId.toNat ∧ r.stableCounter = 0#64 ∧ r.idle = false ∧
    s.afterReset.mem = s.mem ∧ s.afterReset.plat = s.plat ∧ s.afterReset.unseen = []
end

