-- ==== Sys2Proof/Laws/Decode.lean ====
section
/-!
SUPPORT. The encoding formats: the fixed bits of each, and each field read back from a word built in the format. A proof about
encodings cites these and unfolds no format.
-/
namespace Sys2Proof.Encode

/-- The opcode bits of format 3R. -/
@[simp] theorem f3R_op (op : BitVec 17) (k j d : BitVec 5) :
    (f3R op k j d).extractLsb' 15 17 = op := by
  apply BitVec.eq_of_getLsbD_eq
  intro n hn
  simp only [f3R, BitVec.getLsbD_append, BitVec.getLsbD_extractLsb', BitVec.getLsbD_and, BitVec.getLsbD_shiftLeft,
    BitVec.getLsbD_setWidth]
  interval_cases n <;> simp

/-- The field rd of format 3R. -/
@[simp] theorem f3R_rd (op : BitVec 17) (k j d : BitVec 5) :
    Decode.rd (f3R op k j d) = d := by
  apply BitVec.eq_of_getLsbD_eq
  intro n hn
  simp only [f3R, Decode.rd, BitVec.getLsbD_append, BitVec.getLsbD_extractLsb', BitVec.getLsbD_and, BitVec.getLsbD_shiftLeft,
    BitVec.getLsbD_setWidth]
  interval_cases n <;> simp

/-- The field rj of format 3R. -/
@[simp] theorem f3R_rj (op : BitVec 17) (k j d : BitVec 5) :
    Decode.rj (f3R op k j d) = j := by
  apply BitVec.eq_of_getLsbD_eq
  intro n hn
  simp only [f3R, Decode.rj, BitVec.getLsbD_append, BitVec.getLsbD_extractLsb', BitVec.getLsbD_and, BitVec.getLsbD_shiftLeft,
    BitVec.getLsbD_setWidth]
  interval_cases n <;> simp

/-- The field rk of format 3R. -/
@[simp] theorem f3R_rk (op : BitVec 17) (k j d : BitVec 5) :
    Decode.rk (f3R op k j d) = k := by
  apply BitVec.eq_of_getLsbD_eq
  intro n hn
  simp only [f3R, Decode.rk, BitVec.getLsbD_append, BitVec.getLsbD_extractLsb', BitVec.getLsbD_and, BitVec.getLsbD_shiftLeft,
    BitVec.getLsbD_setWidth]
  interval_cases n <;> simp

/-- The fixed bits of format 3R. -/
theorem f3R_row (op : BitVec 17) (k j d : BitVec 5) :
    f3R op k j d &&& 0xFFFF8000#32 = op.setWidth 32 <<< 15 := by
  apply BitVec.eq_of_getLsbD_eq
  intro n hn
  simp only [f3R, BitVec.getLsbD_append, BitVec.getLsbD_extractLsb', BitVec.getLsbD_and, BitVec.getLsbD_shiftLeft,
    BitVec.getLsbD_setWidth]
  interval_cases n <;> simp

/-- The opcode bits of format 2R. -/
@[simp] theorem f2R_op (op : BitVec 22) (j d : BitVec 5) :
    (f2R op j d).extractLsb' 10 22 = op := by
  apply BitVec.eq_of_getLsbD_eq
  intro n hn
  simp only [f2R, BitVec.getLsbD_append, BitVec.getLsbD_extractLsb', BitVec.getLsbD_and, BitVec.getLsbD_shiftLeft,
    BitVec.getLsbD_setWidth]
  interval_cases n <;> simp

/-- The field rd of format 2R. -/
@[simp] theorem f2R_rd (op : BitVec 22) (j d : BitVec 5) :
    Decode.rd (f2R op j d) = d := by
  apply BitVec.eq_of_getLsbD_eq
  intro n hn
  simp only [f2R, Decode.rd, BitVec.getLsbD_append, BitVec.getLsbD_extractLsb', BitVec.getLsbD_and, BitVec.getLsbD_shiftLeft,
    BitVec.getLsbD_setWidth]
  interval_cases n <;> simp

/-- The field rj of format 2R. -/
@[simp] theorem f2R_rj (op : BitVec 22) (j d : BitVec 5) :
    Decode.rj (f2R op j d) = j := by
  apply BitVec.eq_of_getLsbD_eq
  intro n hn
  simp only [f2R, Decode.rj, BitVec.getLsbD_append, BitVec.getLsbD_extractLsb', BitVec.getLsbD_and, BitVec.getLsbD_shiftLeft,
    BitVec.getLsbD_setWidth]
  interval_cases n <;> simp

/-- The fixed bits of format 2R. -/
theorem f2R_row (op : BitVec 22) (j d : BitVec 5) :
    f2R op j d &&& 0xFFFFFC00#32 = op.setWidth 32 <<< 10 := by
  apply BitVec.eq_of_getLsbD_eq
  intro n hn
  simp only [f2R, BitVec.getLsbD_append, BitVec.getLsbD_extractLsb', BitVec.getLsbD_and, BitVec.getLsbD_shiftLeft,
    BitVec.getLsbD_setWidth]
  interval_cases n <;> simp

/-- The opcode bits of format 2Rcd. -/
@[simp] theorem f2Rcd_op (op : BitVec 22) (j : BitVec 5) (c : CReg) :
    (f2Rcd op j c).extractLsb' 10 22 = op := by
  apply BitVec.eq_of_getLsbD_eq
  intro n hn
  simp only [f2Rcd, BitVec.getLsbD_append, BitVec.getLsbD_extractLsb', BitVec.getLsbD_and, BitVec.getLsbD_shiftLeft,
    BitVec.getLsbD_setWidth]
  interval_cases n <;> simp

/-- The field cd of format 2Rcd. -/
@[simp] theorem f2Rcd_cd (op : BitVec 22) (j : BitVec 5) (c : CReg) :
    Decode.cd (f2Rcd op j c) = c := by
  apply BitVec.eq_of_getLsbD_eq
  intro n hn
  simp only [f2Rcd, Decode.cd, BitVec.getLsbD_append, BitVec.getLsbD_extractLsb', BitVec.getLsbD_and, BitVec.getLsbD_shiftLeft,
    BitVec.getLsbD_setWidth]
  interval_cases n <;> simp

/-- The field rj of format 2Rcd. -/
@[simp] theorem f2Rcd_rj (op : BitVec 22) (j : BitVec 5) (c : CReg) :
    Decode.rj (f2Rcd op j c) = j := by
  apply BitVec.eq_of_getLsbD_eq
  intro n hn
  simp only [f2Rcd, Decode.rj, BitVec.getLsbD_append, BitVec.getLsbD_extractLsb', BitVec.getLsbD_and, BitVec.getLsbD_shiftLeft,
    BitVec.getLsbD_setWidth]
  interval_cases n <;> simp

/-- The fixed bits of format 2Rcd. -/
theorem f2Rcd_row (op : BitVec 22) (j : BitVec 5) (c : CReg) :
    f2Rcd op j c &&& 0xFFFFFC18#32 = op.setWidth 32 <<< 10 := by
  apply BitVec.eq_of_getLsbD_eq
  intro n hn
  simp only [f2Rcd, BitVec.getLsbD_append, BitVec.getLsbD_extractLsb', BitVec.getLsbD_and, BitVec.getLsbD_shiftLeft,
    BitVec.getLsbD_setWidth]
  interval_cases n <;> simp

/-- The opcode bits of format 2Rcj. -/
@[simp] theorem f2Rcj_op (op : BitVec 22) (c : CReg) (d : BitVec 5) :
    (f2Rcj op c d).extractLsb' 10 22 = op := by
  apply BitVec.eq_of_getLsbD_eq
  intro n hn
  simp only [f2Rcj, BitVec.getLsbD_append, BitVec.getLsbD_extractLsb', BitVec.getLsbD_and, BitVec.getLsbD_shiftLeft,
    BitVec.getLsbD_setWidth]
  interval_cases n <;> simp

/-- The field cj of format 2Rcj. -/
@[simp] theorem f2Rcj_cj (op : BitVec 22) (c : CReg) (d : BitVec 5) :
    Decode.cj (f2Rcj op c d) = c := by
  apply BitVec.eq_of_getLsbD_eq
  intro n hn
  simp only [f2Rcj, Decode.cj, BitVec.getLsbD_append, BitVec.getLsbD_extractLsb', BitVec.getLsbD_and, BitVec.getLsbD_shiftLeft,
    BitVec.getLsbD_setWidth]
  interval_cases n <;> simp

/-- The field rd of format 2Rcj. -/
@[simp] theorem f2Rcj_rd (op : BitVec 22) (c : CReg) (d : BitVec 5) :
    Decode.rd (f2Rcj op c d) = d := by
  apply BitVec.eq_of_getLsbD_eq
  intro n hn
  simp only [f2Rcj, Decode.rd, BitVec.getLsbD_append, BitVec.getLsbD_extractLsb', BitVec.getLsbD_and, BitVec.getLsbD_shiftLeft,
    BitVec.getLsbD_setWidth]
  interval_cases n <;> simp

/-- The fixed bits of format 2Rcj. -/
theorem f2Rcj_row (op : BitVec 22) (c : CReg) (d : BitVec 5) :
    f2Rcj op c d &&& 0xFFFFFF00#32 = op.setWidth 32 <<< 10 := by
  apply BitVec.eq_of_getLsbD_eq
  intro n hn
  simp only [f2Rcj, BitVec.getLsbD_append, BitVec.getLsbD_extractLsb', BitVec.getLsbD_and, BitVec.getLsbD_shiftLeft,
    BitVec.getLsbD_setWidth]
  interval_cases n <;> simp

/-- The opcode bits of format 2RI12. -/
@[simp] theorem f2RI12_op (op : BitVec 10) (i : BitVec 12) (j d : BitVec 5) :
    (f2RI12 op i j d).extractLsb' 22 10 = op := by
  apply BitVec.eq_of_getLsbD_eq
  intro n hn
  simp only [f2RI12, BitVec.getLsbD_append, BitVec.getLsbD_extractLsb', BitVec.getLsbD_and, BitVec.getLsbD_shiftLeft,
    BitVec.getLsbD_setWidth]
  interval_cases n <;> simp

/-- The field rd of format 2RI12. -/
@[simp] theorem f2RI12_rd (op : BitVec 10) (i : BitVec 12) (j d : BitVec 5) :
    Decode.rd (f2RI12 op i j d) = d := by
  apply BitVec.eq_of_getLsbD_eq
  intro n hn
  simp only [f2RI12, Decode.rd, BitVec.getLsbD_append, BitVec.getLsbD_extractLsb', BitVec.getLsbD_and, BitVec.getLsbD_shiftLeft,
    BitVec.getLsbD_setWidth]
  interval_cases n <;> simp

/-- The field rj of format 2RI12. -/
@[simp] theorem f2RI12_rj (op : BitVec 10) (i : BitVec 12) (j d : BitVec 5) :
    Decode.rj (f2RI12 op i j d) = j := by
  apply BitVec.eq_of_getLsbD_eq
  intro n hn
  simp only [f2RI12, Decode.rj, BitVec.getLsbD_append, BitVec.getLsbD_extractLsb', BitVec.getLsbD_and, BitVec.getLsbD_shiftLeft,
    BitVec.getLsbD_setWidth]
  interval_cases n <;> simp

/-- The field imm12 of format 2RI12. -/
@[simp] theorem f2RI12_imm12 (op : BitVec 10) (i : BitVec 12) (j d : BitVec 5) :
    Decode.imm12 (f2RI12 op i j d) = i := by
  apply BitVec.eq_of_getLsbD_eq
  intro n hn
  simp only [f2RI12, Decode.imm12, BitVec.getLsbD_append, BitVec.getLsbD_extractLsb', BitVec.getLsbD_and, BitVec.getLsbD_shiftLeft,
    BitVec.getLsbD_setWidth]
  interval_cases n <;> simp

/-- The fixed bits of format 2RI12. -/
theorem f2RI12_row (op : BitVec 10) (i : BitVec 12) (j d : BitVec 5) :
    f2RI12 op i j d &&& 0xFFC00000#32 = op.setWidth 32 <<< 22 := by
  apply BitVec.eq_of_getLsbD_eq
  intro n hn
  simp only [f2RI12, BitVec.getLsbD_append, BitVec.getLsbD_extractLsb', BitVec.getLsbD_and, BitVec.getLsbD_shiftLeft,
    BitVec.getLsbD_setWidth]
  interval_cases n <;> simp

/-- The opcode bits of format 2RI14. -/
@[simp] theorem f2RI14_op (op : BitVec 8) (i : BitVec 14) (j d : BitVec 5) :
    (f2RI14 op i j d).extractLsb' 24 8 = op := by
  apply BitVec.eq_of_getLsbD_eq
  intro n hn
  simp only [f2RI14, BitVec.getLsbD_append, BitVec.getLsbD_extractLsb', BitVec.getLsbD_and, BitVec.getLsbD_shiftLeft,
    BitVec.getLsbD_setWidth]
  interval_cases n <;> simp

/-- The field rd of format 2RI14. -/
@[simp] theorem f2RI14_rd (op : BitVec 8) (i : BitVec 14) (j d : BitVec 5) :
    Decode.rd (f2RI14 op i j d) = d := by
  apply BitVec.eq_of_getLsbD_eq
  intro n hn
  simp only [f2RI14, Decode.rd, BitVec.getLsbD_append, BitVec.getLsbD_extractLsb', BitVec.getLsbD_and, BitVec.getLsbD_shiftLeft,
    BitVec.getLsbD_setWidth]
  interval_cases n <;> simp

/-- The field rj of format 2RI14. -/
@[simp] theorem f2RI14_rj (op : BitVec 8) (i : BitVec 14) (j d : BitVec 5) :
    Decode.rj (f2RI14 op i j d) = j := by
  apply BitVec.eq_of_getLsbD_eq
  intro n hn
  simp only [f2RI14, Decode.rj, BitVec.getLsbD_append, BitVec.getLsbD_extractLsb', BitVec.getLsbD_and, BitVec.getLsbD_shiftLeft,
    BitVec.getLsbD_setWidth]
  interval_cases n <;> simp

/-- The field imm14 of format 2RI14. -/
@[simp] theorem f2RI14_imm14 (op : BitVec 8) (i : BitVec 14) (j d : BitVec 5) :
    Decode.imm14 (f2RI14 op i j d) = i := by
  apply BitVec.eq_of_getLsbD_eq
  intro n hn
  simp only [f2RI14, Decode.imm14, BitVec.getLsbD_append, BitVec.getLsbD_extractLsb', BitVec.getLsbD_and, BitVec.getLsbD_shiftLeft,
    BitVec.getLsbD_setWidth]
  interval_cases n <;> simp

/-- The fixed bits of format 2RI14. -/
theorem f2RI14_row (op : BitVec 8) (i : BitVec 14) (j d : BitVec 5) :
    f2RI14 op i j d &&& 0xFF000000#32 = op.setWidth 32 <<< 24 := by
  apply BitVec.eq_of_getLsbD_eq
  intro n hn
  simp only [f2RI14, BitVec.getLsbD_append, BitVec.getLsbD_extractLsb', BitVec.getLsbD_and, BitVec.getLsbD_shiftLeft,
    BitVec.getLsbD_setWidth]
  interval_cases n <;> simp

/-- The opcode bits of format 1RI20. -/
@[simp] theorem f1RI20_op (op : BitVec 7) (i : BitVec 20) (d : BitVec 5) :
    (f1RI20 op i d).extractLsb' 25 7 = op := by
  apply BitVec.eq_of_getLsbD_eq
  intro n hn
  simp only [f1RI20, BitVec.getLsbD_append, BitVec.getLsbD_extractLsb', BitVec.getLsbD_and, BitVec.getLsbD_shiftLeft,
    BitVec.getLsbD_setWidth]
  interval_cases n <;> simp

/-- The field rd of format 1RI20. -/
@[simp] theorem f1RI20_rd (op : BitVec 7) (i : BitVec 20) (d : BitVec 5) :
    Decode.rd (f1RI20 op i d) = d := by
  apply BitVec.eq_of_getLsbD_eq
  intro n hn
  simp only [f1RI20, Decode.rd, BitVec.getLsbD_append, BitVec.getLsbD_extractLsb', BitVec.getLsbD_and, BitVec.getLsbD_shiftLeft,
    BitVec.getLsbD_setWidth]
  interval_cases n <;> simp

/-- The field imm20 of format 1RI20. -/
@[simp] theorem f1RI20_imm20 (op : BitVec 7) (i : BitVec 20) (d : BitVec 5) :
    Decode.imm20 (f1RI20 op i d) = i := by
  apply BitVec.eq_of_getLsbD_eq
  intro n hn
  simp only [f1RI20, Decode.imm20, BitVec.getLsbD_append, BitVec.getLsbD_extractLsb', BitVec.getLsbD_and, BitVec.getLsbD_shiftLeft,
    BitVec.getLsbD_setWidth]
  interval_cases n <;> simp

/-- The fixed bits of format 1RI20. -/
theorem f1RI20_row (op : BitVec 7) (i : BitVec 20) (d : BitVec 5) :
    f1RI20 op i d &&& 0xFE000000#32 = op.setWidth 32 <<< 25 := by
  apply BitVec.eq_of_getLsbD_eq
  intro n hn
  simp only [f1RI20, BitVec.getLsbD_append, BitVec.getLsbD_extractLsb', BitVec.getLsbD_and, BitVec.getLsbD_shiftLeft,
    BitVec.getLsbD_setWidth]
  interval_cases n <;> simp

/-- The opcode bits of format 2RI16. -/
@[simp] theorem f2RI16_op (op : BitVec 6) (o : BitVec 16) (j d : BitVec 5) :
    (f2RI16 op o j d).extractLsb' 26 6 = op := by
  apply BitVec.eq_of_getLsbD_eq
  intro n hn
  simp only [f2RI16, BitVec.getLsbD_append, BitVec.getLsbD_extractLsb', BitVec.getLsbD_and, BitVec.getLsbD_shiftLeft,
    BitVec.getLsbD_setWidth]
  interval_cases n <;> simp

/-- The field rd of format 2RI16. -/
@[simp] theorem f2RI16_rd (op : BitVec 6) (o : BitVec 16) (j d : BitVec 5) :
    Decode.rd (f2RI16 op o j d) = d := by
  apply BitVec.eq_of_getLsbD_eq
  intro n hn
  simp only [f2RI16, Decode.rd, BitVec.getLsbD_append, BitVec.getLsbD_extractLsb', BitVec.getLsbD_and, BitVec.getLsbD_shiftLeft,
    BitVec.getLsbD_setWidth]
  interval_cases n <;> simp

/-- The field rj of format 2RI16. -/
@[simp] theorem f2RI16_rj (op : BitVec 6) (o : BitVec 16) (j d : BitVec 5) :
    Decode.rj (f2RI16 op o j d) = j := by
  apply BitVec.eq_of_getLsbD_eq
  intro n hn
  simp only [f2RI16, Decode.rj, BitVec.getLsbD_append, BitVec.getLsbD_extractLsb', BitVec.getLsbD_and, BitVec.getLsbD_shiftLeft,
    BitVec.getLsbD_setWidth]
  interval_cases n <;> simp

/-- The field offs16 of format 2RI16. -/
@[simp] theorem f2RI16_offs16 (op : BitVec 6) (o : BitVec 16) (j d : BitVec 5) :
    Decode.offs16 (f2RI16 op o j d) = o := by
  apply BitVec.eq_of_getLsbD_eq
  intro n hn
  simp only [f2RI16, Decode.offs16, BitVec.getLsbD_append, BitVec.getLsbD_extractLsb', BitVec.getLsbD_and, BitVec.getLsbD_shiftLeft,
    BitVec.getLsbD_setWidth]
  interval_cases n <;> simp

/-- The fixed bits of format 2RI16. -/
theorem f2RI16_row (op : BitVec 6) (o : BitVec 16) (j d : BitVec 5) :
    f2RI16 op o j d &&& 0xFC000000#32 = op.setWidth 32 <<< 26 := by
  apply BitVec.eq_of_getLsbD_eq
  intro n hn
  simp only [f2RI16, BitVec.getLsbD_append, BitVec.getLsbD_extractLsb', BitVec.getLsbD_and, BitVec.getLsbD_shiftLeft,
    BitVec.getLsbD_setWidth]
  interval_cases n <;> simp

/-- The opcode bits of format I26. -/
@[simp] theorem fI26_op (op : BitVec 6) (o : BitVec 26) :
    (fI26 op o).extractLsb' 26 6 = op := by
  apply BitVec.eq_of_getLsbD_eq
  intro n hn
  simp only [fI26, BitVec.getLsbD_append, BitVec.getLsbD_extractLsb', BitVec.getLsbD_and, BitVec.getLsbD_shiftLeft,
    BitVec.getLsbD_setWidth]
  interval_cases n <;> simp

/-- The field offs26 of format I26. -/
@[simp] theorem fI26_offs26 (op : BitVec 6) (o : BitVec 26) :
    Decode.offs26 (fI26 op o) = o := by
  apply BitVec.eq_of_getLsbD_eq
  intro n hn
  simp only [fI26, Decode.offs26, BitVec.getLsbD_append, BitVec.getLsbD_extractLsb', BitVec.getLsbD_and, BitVec.getLsbD_shiftLeft,
    BitVec.getLsbD_setWidth]
  interval_cases n <;> simp

/-- The fixed bits of format I26. -/
theorem fI26_row (op : BitVec 6) (o : BitVec 26) :
    fI26 op o &&& 0xFC000000#32 = op.setWidth 32 <<< 26 := by
  apply BitVec.eq_of_getLsbD_eq
  intro n hn
  simp only [fI26, BitVec.getLsbD_append, BitVec.getLsbD_extractLsb', BitVec.getLsbD_and, BitVec.getLsbD_shiftLeft,
    BitVec.getLsbD_setWidth]
  interval_cases n <;> simp

/-- The opcode bits of format 1RI21. -/
@[simp] theorem f1RI21_op (op : BitVec 6) (sub : BitVec 2) (c : CReg) (o : BitVec 21) :
    (f1RI21 op sub c o).extractLsb' 26 6 = op := by
  apply BitVec.eq_of_getLsbD_eq
  intro n hn
  simp only [f1RI21, BitVec.getLsbD_append, BitVec.getLsbD_extractLsb', BitVec.getLsbD_and, BitVec.getLsbD_shiftLeft,
    BitVec.getLsbD_setWidth]
  interval_cases n <;> simp

/-- The field cj of format 1RI21. -/
@[simp] theorem f1RI21_cj (op : BitVec 6) (sub : BitVec 2) (c : CReg) (o : BitVec 21) :
    Decode.cj (f1RI21 op sub c o) = c := by
  apply BitVec.eq_of_getLsbD_eq
  intro n hn
  simp only [f1RI21, Decode.cj, BitVec.getLsbD_append, BitVec.getLsbD_extractLsb', BitVec.getLsbD_and, BitVec.getLsbD_shiftLeft,
    BitVec.getLsbD_setWidth]
  interval_cases n <;> simp

/-- The field offs21 of format 1RI21. -/
@[simp] theorem f1RI21_offs21 (op : BitVec 6) (sub : BitVec 2) (c : CReg) (o : BitVec 21) :
    Decode.offs21 (f1RI21 op sub c o) = o := by
  apply BitVec.eq_of_getLsbD_eq
  intro n hn
  simp only [f1RI21, Decode.offs21, BitVec.getLsbD_append, BitVec.getLsbD_extractLsb', BitVec.getLsbD_and, BitVec.getLsbD_shiftLeft,
    BitVec.getLsbD_setWidth]
  interval_cases n <;> simp

/-- The opcode bits of format 4R. -/
@[simp] theorem f4R_op (op : BitVec 12) (a k j d : BitVec 5) :
    (f4R op a k j d).extractLsb' 20 12 = op := by
  apply BitVec.eq_of_getLsbD_eq
  intro n hn
  simp only [f4R, BitVec.getLsbD_append, BitVec.getLsbD_extractLsb', BitVec.getLsbD_and, BitVec.getLsbD_shiftLeft,
    BitVec.getLsbD_setWidth]
  interval_cases n <;> simp

/-- The field rd of format 4R. -/
@[simp] theorem f4R_rd (op : BitVec 12) (a k j d : BitVec 5) :
    Decode.rd (f4R op a k j d) = d := by
  apply BitVec.eq_of_getLsbD_eq
  intro n hn
  simp only [f4R, Decode.rd, BitVec.getLsbD_append, BitVec.getLsbD_extractLsb', BitVec.getLsbD_and, BitVec.getLsbD_shiftLeft,
    BitVec.getLsbD_setWidth]
  interval_cases n <;> simp

/-- The field rj of format 4R. -/
@[simp] theorem f4R_rj (op : BitVec 12) (a k j d : BitVec 5) :
    Decode.rj (f4R op a k j d) = j := by
  apply BitVec.eq_of_getLsbD_eq
  intro n hn
  simp only [f4R, Decode.rj, BitVec.getLsbD_append, BitVec.getLsbD_extractLsb', BitVec.getLsbD_and, BitVec.getLsbD_shiftLeft,
    BitVec.getLsbD_setWidth]
  interval_cases n <;> simp

/-- The field rk of format 4R. -/
@[simp] theorem f4R_rk (op : BitVec 12) (a k j d : BitVec 5) :
    Decode.rk (f4R op a k j d) = k := by
  apply BitVec.eq_of_getLsbD_eq
  intro n hn
  simp only [f4R, Decode.rk, BitVec.getLsbD_append, BitVec.getLsbD_extractLsb', BitVec.getLsbD_and, BitVec.getLsbD_shiftLeft,
    BitVec.getLsbD_setWidth]
  interval_cases n <;> simp

/-- The field fa of format 4R. -/
@[simp] theorem f4R_fa (op : BitVec 12) (a k j d : BitVec 5) :
    Decode.fa (f4R op a k j d) = a := by
  apply BitVec.eq_of_getLsbD_eq
  intro n hn
  simp only [f4R, Decode.fa, BitVec.getLsbD_append, BitVec.getLsbD_extractLsb', BitVec.getLsbD_and, BitVec.getLsbD_shiftLeft,
    BitVec.getLsbD_setWidth]
  interval_cases n <;> simp

/-- The fixed bits of format 4R. -/
theorem f4R_row (op : BitVec 12) (a k j d : BitVec 5) :
    f4R op a k j d &&& 0xFFF00000#32 = op.setWidth 32 <<< 20 := by
  apply BitVec.eq_of_getLsbD_eq
  intro n hn
  simp only [f4R, BitVec.getLsbD_append, BitVec.getLsbD_extractLsb', BitVec.getLsbD_and, BitVec.getLsbD_shiftLeft,
    BitVec.getLsbD_setWidth]
  interval_cases n <;> simp

/-- The opcode bits of format I15. -/
@[simp] theorem fI15_op (op : BitVec 17) (i : BitVec 15) :
    (fI15 op i).extractLsb' 15 17 = op := by
  apply BitVec.eq_of_getLsbD_eq
  intro n hn
  simp only [fI15, BitVec.getLsbD_append, BitVec.getLsbD_extractLsb', BitVec.getLsbD_and, BitVec.getLsbD_shiftLeft,
    BitVec.getLsbD_setWidth]
  interval_cases n <;> simp

/-- The field imm15 of format I15. -/
@[simp] theorem fI15_imm15 (op : BitVec 17) (i : BitVec 15) :
    Decode.imm15 (fI15 op i) = i := by
  apply BitVec.eq_of_getLsbD_eq
  intro n hn
  simp only [fI15, Decode.imm15, BitVec.getLsbD_append, BitVec.getLsbD_extractLsb', BitVec.getLsbD_and, BitVec.getLsbD_shiftLeft,
    BitVec.getLsbD_setWidth]
  interval_cases n <;> simp

/-- The fixed bits of format I15. -/
theorem fI15_row (op : BitVec 17) (i : BitVec 15) :
    fI15 op i &&& 0xFFFF8000#32 = op.setWidth 32 <<< 15 := by
  apply BitVec.eq_of_getLsbD_eq
  intro n hn
  simp only [fI15, BitVec.getLsbD_append, BitVec.getLsbD_extractLsb', BitVec.getLsbD_and, BitVec.getLsbD_shiftLeft,
    BitVec.getLsbD_setWidth]
  interval_cases n <;> simp

/-- The opcode bits of format Fcmp. -/
@[simp] theorem fFcmp_op (op : BitVec 12) (cond k j : BitVec 5) (c : CReg) :
    (fFcmp op cond k j c).extractLsb' 20 12 = op := by
  apply BitVec.eq_of_getLsbD_eq
  intro n hn
  simp only [fFcmp, BitVec.getLsbD_append, BitVec.getLsbD_extractLsb', BitVec.getLsbD_and, BitVec.getLsbD_shiftLeft,
    BitVec.getLsbD_setWidth]
  interval_cases n <;> simp

/-- The field cd of format Fcmp. -/
@[simp] theorem fFcmp_cd (op : BitVec 12) (cond k j : BitVec 5) (c : CReg) :
    Decode.cd (fFcmp op cond k j c) = c := by
  apply BitVec.eq_of_getLsbD_eq
  intro n hn
  simp only [fFcmp, Decode.cd, BitVec.getLsbD_append, BitVec.getLsbD_extractLsb', BitVec.getLsbD_and, BitVec.getLsbD_shiftLeft,
    BitVec.getLsbD_setWidth]
  interval_cases n <;> simp

/-- The field rj of format Fcmp. -/
@[simp] theorem fFcmp_rj (op : BitVec 12) (cond k j : BitVec 5) (c : CReg) :
    Decode.rj (fFcmp op cond k j c) = j := by
  apply BitVec.eq_of_getLsbD_eq
  intro n hn
  simp only [fFcmp, Decode.rj, BitVec.getLsbD_append, BitVec.getLsbD_extractLsb', BitVec.getLsbD_and, BitVec.getLsbD_shiftLeft,
    BitVec.getLsbD_setWidth]
  interval_cases n <;> simp

/-- The field rk of format Fcmp. -/
@[simp] theorem fFcmp_rk (op : BitVec 12) (cond k j : BitVec 5) (c : CReg) :
    Decode.rk (fFcmp op cond k j c) = k := by
  apply BitVec.eq_of_getLsbD_eq
  intro n hn
  simp only [fFcmp, Decode.rk, BitVec.getLsbD_append, BitVec.getLsbD_extractLsb', BitVec.getLsbD_and, BitVec.getLsbD_shiftLeft,
    BitVec.getLsbD_setWidth]
  interval_cases n <;> simp

/-- The field fa of format Fcmp. -/
@[simp] theorem fFcmp_fa (op : BitVec 12) (cond k j : BitVec 5) (c : CReg) :
    Decode.fa (fFcmp op cond k j c) = cond := by
  apply BitVec.eq_of_getLsbD_eq
  intro n hn
  simp only [fFcmp, Decode.fa, BitVec.getLsbD_append, BitVec.getLsbD_extractLsb', BitVec.getLsbD_and, BitVec.getLsbD_shiftLeft,
    BitVec.getLsbD_setWidth]
  interval_cases n <;> simp

/-- The opcode bits of format Fsel. -/
@[simp] theorem fFsel_op (op : BitVec 12) (c : CReg) (k j d : BitVec 5) :
    (fFsel op c k j d).extractLsb' 20 12 = op := by
  apply BitVec.eq_of_getLsbD_eq
  intro n hn
  simp only [fFsel, BitVec.getLsbD_append, BitVec.getLsbD_extractLsb', BitVec.getLsbD_and, BitVec.getLsbD_shiftLeft,
    BitVec.getLsbD_setWidth]
  interval_cases n <;> simp

/-- The field rd of format Fsel. -/
@[simp] theorem fFsel_rd (op : BitVec 12) (c : CReg) (k j d : BitVec 5) :
    Decode.rd (fFsel op c k j d) = d := by
  apply BitVec.eq_of_getLsbD_eq
  intro n hn
  simp only [fFsel, Decode.rd, BitVec.getLsbD_append, BitVec.getLsbD_extractLsb', BitVec.getLsbD_and, BitVec.getLsbD_shiftLeft,
    BitVec.getLsbD_setWidth]
  interval_cases n <;> simp

/-- The field rj of format Fsel. -/
@[simp] theorem fFsel_rj (op : BitVec 12) (c : CReg) (k j d : BitVec 5) :
    Decode.rj (fFsel op c k j d) = j := by
  apply BitVec.eq_of_getLsbD_eq
  intro n hn
  simp only [fFsel, Decode.rj, BitVec.getLsbD_append, BitVec.getLsbD_extractLsb', BitVec.getLsbD_and, BitVec.getLsbD_shiftLeft,
    BitVec.getLsbD_setWidth]
  interval_cases n <;> simp

/-- The field rk of format Fsel. -/
@[simp] theorem fFsel_rk (op : BitVec 12) (c : CReg) (k j d : BitVec 5) :
    Decode.rk (fFsel op c k j d) = k := by
  apply BitVec.eq_of_getLsbD_eq
  intro n hn
  simp only [fFsel, Decode.rk, BitVec.getLsbD_append, BitVec.getLsbD_extractLsb', BitVec.getLsbD_and, BitVec.getLsbD_shiftLeft,
    BitVec.getLsbD_setWidth]
  interval_cases n <;> simp

/-- The field ca of format Fsel. -/
@[simp] theorem fFsel_ca (op : BitVec 12) (c : CReg) (k j d : BitVec 5) :
    Decode.ca (fFsel op c k j d) = c := by
  apply BitVec.eq_of_getLsbD_eq
  intro n hn
  simp only [fFsel, Decode.ca, BitVec.getLsbD_append, BitVec.getLsbD_extractLsb', BitVec.getLsbD_and, BitVec.getLsbD_shiftLeft,
    BitVec.getLsbD_setWidth]
  interval_cases n <;> simp

/-- The fixed bits of format Fsel. -/
theorem fFsel_row (op : BitVec 12) (c : CReg) (k j d : BitVec 5) :
    fFsel op c k j d &&& 0xFFFC0000#32 = op.setWidth 32 <<< 20 := by
  apply BitVec.eq_of_getLsbD_eq
  intro n hn
  simp only [fFsel, BitVec.getLsbD_append, BitVec.getLsbD_extractLsb', BitVec.getLsbD_and, BitVec.getLsbD_shiftLeft,
    BitVec.getLsbD_setWidth]
  interval_cases n <;> simp

/-- The fixed bits of format 2R, a field given. -/
theorem f2R_row_rj (op : BitVec 22) (d : BitVec 5) :
    f2R op 0#5 d &&& 0xFFFFFFE0#32 = op.setWidth 32 <<< 10 := by
  apply BitVec.eq_of_getLsbD_eq
  intro n hn
  simp only [f2R, BitVec.getLsbD_or, BitVec.getLsbD_append, BitVec.getLsbD_extractLsb', BitVec.getLsbD_and, BitVec.getLsbD_shiftLeft,
    BitVec.getLsbD_setWidth]
  interval_cases n <;> simp

/-- The fixed bits of format 2R, a field given. -/
theorem f2R_row_rd (op : BitVec 22) (j : BitVec 5) :
    f2R op j 0#5 &&& 0xFFFFFC1F#32 = op.setWidth 32 <<< 10 := by
  apply BitVec.eq_of_getLsbD_eq
  intro n hn
  simp only [f2R, BitVec.getLsbD_or, BitVec.getLsbD_append, BitVec.getLsbD_extractLsb', BitVec.getLsbD_and, BitVec.getLsbD_shiftLeft,
    BitVec.getLsbD_setWidth]
  interval_cases n <;> simp

/-- The fixed bits of format 2RI14, a field given. -/
theorem f2RI14_row_rj (op : BitVec 8) (i : BitVec 14) (j d : BitVec 5) :
    f2RI14 op i j d &&& 0xFF0003E0#32 = (op.setWidth 32 <<< 24) ||| (j.setWidth 32 <<< 5) := by
  apply BitVec.eq_of_getLsbD_eq
  intro n hn
  simp only [f2RI14, BitVec.getLsbD_or, BitVec.getLsbD_append, BitVec.getLsbD_extractLsb', BitVec.getLsbD_and, BitVec.getLsbD_shiftLeft,
    BitVec.getLsbD_setWidth]
  interval_cases n <;> simp

/-- The fixed bits of format 1RI21, a field given. -/
theorem f1RI21_row (op : BitVec 6) (sub : BitVec 2) (c : CReg) (o : BitVec 21) :
    f1RI21 op sub c o &&& 0xFC000300#32 = (op.setWidth 32 <<< 26) ||| (sub.setWidth 32 <<< 8) := by
  apply BitVec.eq_of_getLsbD_eq
  intro n hn
  simp only [f1RI21, BitVec.getLsbD_or, BitVec.getLsbD_append, BitVec.getLsbD_extractLsb', BitVec.getLsbD_and, BitVec.getLsbD_shiftLeft,
    BitVec.getLsbD_setWidth]
  interval_cases n <;> simp

/-- The fixed bits of format Fcmp, a field given. -/
theorem fFcmp_row (op : BitVec 12) (cond k j : BitVec 5) (c : CReg) :
    fFcmp op cond k j c &&& 0xFFFF8018#32 = (op.setWidth 32 <<< 20) ||| (cond.setWidth 32 <<< 15) := by
  apply BitVec.eq_of_getLsbD_eq
  intro n hn
  simp only [fFcmp, BitVec.getLsbD_or, BitVec.getLsbD_append, BitVec.getLsbD_extractLsb', BitVec.getLsbD_and, BitVec.getLsbD_shiftLeft,
    BitVec.getLsbD_setWidth]
  interval_cases n <;> simp

/-- The bits format 1RI21 keeps for its suboperation. -/
@[simp] theorem f1RI21_sub (op : BitVec 6) (sub : BitVec 2) (c : CReg) (o : BitVec 21) :
    (f1RI21 op sub c o).extractLsb' 8 2 = sub := by
  apply BitVec.eq_of_getLsbD_eq
  intro n hn
  simp only [f1RI21, BitVec.getLsbD_append, BitVec.getLsbD_extractLsb', BitVec.getLsbD_and, BitVec.getLsbD_shiftLeft,
    BitVec.getLsbD_setWidth]
  interval_cases n <;> simp

/-- The zero bits of a flag number in bits 2:0 (R127). -/
@[simp] theorem f2Rcd_zero (op : BitVec 22) (j : BitVec 5) (c : CReg) :
    (f2Rcd op j c).extractLsb' 3 2 = 0#2 := by
  apply BitVec.eq_of_getLsbD_eq
  intro n hn
  simp only [f2Rcd, BitVec.getLsbD_append, BitVec.getLsbD_extractLsb', BitVec.getLsbD_and, BitVec.getLsbD_shiftLeft,
    BitVec.getLsbD_setWidth]
  interval_cases n <;> simp

/-- The zero bits of a flag number in bits 7:5 (R127). -/
@[simp] theorem f2Rcj_zero (op : BitVec 22) (c : CReg) (d : BitVec 5) :
    (f2Rcj op c d).extractLsb' 8 2 = 0#2 := by
  apply BitVec.eq_of_getLsbD_eq
  intro n hn
  simp only [f2Rcj, BitVec.getLsbD_append, BitVec.getLsbD_extractLsb', BitVec.getLsbD_and, BitVec.getLsbD_shiftLeft,
    BitVec.getLsbD_setWidth]
  interval_cases n <;> simp

/-- The zero bits of FCMP (R381). -/
@[simp] theorem fFcmp_zero (op : BitVec 12) (cond k j : BitVec 5) (c : CReg) :
    (fFcmp op cond k j c).extractLsb' 3 2 = 0#2 := by
  apply BitVec.eq_of_getLsbD_eq
  intro n hn
  simp only [fFcmp, BitVec.getLsbD_append, BitVec.getLsbD_extractLsb', BitVec.getLsbD_and, BitVec.getLsbD_shiftLeft,
    BitVec.getLsbD_setWidth]
  interval_cases n <;> simp

/-- The zero bits of FSEL (R422). -/
@[simp] theorem fFsel_zero (op : BitVec 12) (c : CReg) (k j d : BitVec 5) :
    (fFsel op c k j d).extractLsb' 18 2 = 0#2 := by
  apply BitVec.eq_of_getLsbD_eq
  intro n hn
  simp only [fFsel, BitVec.getLsbD_append, BitVec.getLsbD_extractLsb', BitVec.getLsbD_and, BitVec.getLsbD_shiftLeft,
    BitVec.getLsbD_setWidth]
  interval_cases n <;> simp

end Sys2Proof.Encode
end

