-- ==== Sys2Proof/Laws/Memory.lean ====
section
/-!
SUPPORT. Laws of memory: reading after writing, and that every memory operation keeps the canonical form.
-/
namespace Sys2Proof.Machine

@[simp] theorem Memory.byte_nil (a : Nat) : Memory.byte [] a = Memory.blank := rfl

theorem Memory.byte_cons (k : Nat) (v : Byte) (t : List Host.Cell) (a : Nat) :
    Memory.byte ((k, v) :: t) a = if a = k then v else Memory.byte t a := by
  unfold Memory.byte
  by_cases h : a = k
  · subst h; simp [List.lookup]
  · simp [List.lookup, h, beq_eq_false_iff_ne.mpr h]

/-- Below the first address of a canonical list every byte is blank. -/
theorem Memory.byte_of_lt {lo a : Nat} {m : List Host.Cell} (h : Memory.wfFrom lo m = true) (ha : a < lo) :
    Memory.byte m a = Memory.blank := by
  induction m generalizing lo with
  | nil => rfl
  | cons c t ih =>
    obtain ⟨k, v⟩ := c
    simp only [Memory.wfFrom, Bool.and_eq_true, decide_eq_true_eq] at h
    rw [Memory.byte_cons, if_neg (by omega), ih h.2 (by omega)]

/-- A write of one byte changes that byte and no other. -/
theorem Memory.byte_setByte {lo : Nat} {m : List Host.Cell} (h : Memory.wfFrom lo m = true) (a : Nat) (v : Byte) (b : Nat) :
    Memory.byte (Memory.setByte m a v) b = if b = a then v else Memory.byte m b := by
  induction m generalizing lo with
  | nil =>
    by_cases hv : v = Memory.blank
    · simp [Memory.setByte, hv]
    · simp [Memory.setByte, hv, Memory.byte_cons]
  | cons c t ih =>
    obtain ⟨k, w⟩ := c
    simp only [Memory.wfFrom, Bool.and_eq_true, decide_eq_true_eq] at h
    have hbelow : ∀ x, x < k + 1 → Memory.byte t x = Memory.blank := fun x hx => Memory.byte_of_lt h.2 hx
    unfold Memory.setByte
    split
    · split
      · next hv =>
        rw [hv]; by_cases hb : b = a
        · subst hb; rw [Memory.byte_cons, if_neg (by omega), if_pos rfl, hbelow _ (by omega)]
        · rw [if_neg hb]
      · rw [Memory.byte_cons]
    · split
      · next ha =>
        subst ha
        split
        · next hv =>
          rw [hv]; by_cases hb : b = a
          · subst hb; rw [if_pos rfl, hbelow _ (by omega)]
          · rw [if_neg hb, Memory.byte_cons, if_neg hb]
        · rw [Memory.byte_cons, Memory.byte_cons]; split <;> rfl
      · rw [Memory.byte_cons, Memory.byte_cons, ih h.2]
        by_cases hb : b = k
        · rw [if_pos hb, if_pos hb, if_neg (by omega)]
        · rw [if_neg hb, if_neg hb]

/-- A write of one byte keeps the canonical form. -/
theorem Memory.wfFrom_setByte {lo : Nat} {m : List Host.Cell} (h : Memory.wfFrom lo m = true) {a : Nat} (v : Byte)
    (hlo : lo ≤ a) (ha : a < 2 ^ 36) : Memory.wfFrom lo (Memory.setByte m a v) = true := by
  induction m generalizing lo with
  | nil =>
    by_cases hv : v = Memory.blank
    · simp [Memory.setByte, hv, Memory.wfFrom]
    · simp [Memory.setByte, hv, Memory.wfFrom, hlo]; omega
  | cons c t ih =>
    obtain ⟨k, w⟩ := c
    have h0 := h
    simp only [Memory.wfFrom, Bool.and_eq_true, decide_eq_true_eq, bne_iff_ne, ne_eq] at h
    obtain ⟨⟨⟨h1, h2⟩, h3⟩, h4⟩ := h
    unfold Memory.setByte
    split
    · split
      · exact h0
      · next hv =>
        simp only [Memory.wfFrom, Bool.and_eq_true, decide_eq_true_eq, bne_iff_ne, ne_eq]
        exact ⟨⟨⟨hlo, ha⟩, hv⟩, ⟨⟨by omega, h2⟩, h3⟩, h4⟩
    · split
      · next hk =>
        split
        · clear ih h0
          have : ∀ {x y : Nat} {l : List Host.Cell}, x ≤ y → Memory.wfFrom y l = true → Memory.wfFrom x l = true := by
            intro x y l hxy hl
            cases l with
            | nil => rfl
            | cons c t =>
              obtain ⟨k, v⟩ := c
              simp only [Memory.wfFrom, Bool.and_eq_true, decide_eq_true_eq] at hl ⊢
              exact ⟨⟨⟨by omega, hl.1.1.2⟩, hl.1.2⟩, hl.2⟩
          exact this (by omega) h4
        · next hv =>
          simp only [Memory.wfFrom, Bool.and_eq_true, decide_eq_true_eq, bne_iff_ne, ne_eq]
          exact ⟨⟨⟨h1, h2⟩, hv⟩, h4⟩
      · simp only [Memory.wfFrom, Bool.and_eq_true, decide_eq_true_eq, bne_iff_ne, ne_eq]
        exact ⟨⟨⟨h1, h2⟩, h3⟩, ih h4 (by omega)⟩

theorem Memory.wf_setByte {m : List Host.Cell} (h : Memory.wf m = true) {a : Nat} (v : Byte)
    (ha : a < 2 ^ 36) : Memory.wf (Memory.setByte m a v) = true :=
  Memory.wfFrom_setByte h v (Nat.zero_le _) ha

/-- A write of `n` bytes keeps the canonical form. -/
theorem Memory.wf_write {m : List Host.Cell} (h : Memory.wf m = true) {a n : Nat} (v : BitVec (8 * n))
    (ha : a + n ≤ 2 ^ 36) : Memory.wf (Memory.write m a n v) = true := by
  induction n generalizing m a with
  | zero => exact h
  | succ n ih => exact ih (Memory.wf_setByte h _ (by omega)) _ (by omega)

/-- After a write of `n` bytes: byte i of the value stands at address a + i, and every other byte is as it was. -/
theorem Memory.byte_write {m : List Host.Cell} (h : Memory.wf m = true) {a n : Nat} (v : BitVec (8 * n))
    (ha : a + n ≤ 2 ^ 36) (b : Nat) :
    Memory.byte (Memory.write m a n v) b =
      if a ≤ b ∧ b < a + n then v.extractLsb' (8 * (b - a)) 8 else Memory.byte m b := by
  induction n generalizing m a with
  | zero => rw [if_neg (by omega)]; rfl
  | succ n ih =>
    unfold Memory.write
    rw [ih (Memory.wf_setByte h _ (by omega)) _ (by omega), Memory.byte_setByte h]
    by_cases hb : b = a
    · subst hb
      rw [if_neg (by omega), if_pos rfl, if_pos (by omega)]
      simp
    · by_cases hr : a + 1 ≤ b ∧ b < a + 1 + n
      · rw [if_pos hr, if_pos (by omega)]
        have h8 : 8 + 8 * (b - (a + 1)) = 8 * (b - a) := by omega
        apply BitVec.eq_of_getLsbD_eq
        intro i hi
        simp only [BitVec.getLsbD_extractLsb']
        have : 8 * (b - (a + 1)) + i < 8 * n := by omega
        simp [hi, this, ← h8, Nat.add_assoc]
      · rw [if_neg hr, if_neg hb, if_neg (by omega)]

/-- A read of `n + 1` bytes is its least significant byte below the others. -/
theorem Memory.read_succ (m : List Host.Cell) (a n : Nat) :
    Memory.read m a (n + 1) = Memory.read m (a + 1) n ++ Memory.byte m a := rfl

/-- Byte i of a read is the byte at address a + i. -/
theorem Memory.extract_read (m : List Host.Cell) (a n i : Nat) (hi : i < n) :
    (Memory.read m a n).extractLsb' (8 * i) 8 = Memory.byte m (a + i) := by
  induction n generalizing a i with
  | zero => omega
  | succ n ih =>
    apply BitVec.eq_of_getLsbD_eq
    intro j hj
    rw [Memory.read_succ]
    cases i with
    | zero => simp [BitVec.getLsbD_append, hj]
    | succ i =>
      have := congrArg (fun x => x.getLsbD j) (ih (a + 1) i (by omega))
      simp only [BitVec.getLsbD_extractLsb', hj, decide_true, Bool.true_and] at this ⊢
      rw [BitVec.getLsbD_append, if_neg (by omega), show 8 * (i + 1) + j - 8 = 8 * i + j by omega, this]
      congr 2; omega

/-- Memory with the same bytes in a range reads the same there. -/
theorem Memory.read_congr {m m' : List Host.Cell} (a n : Nat)
    (h : ∀ i, i < n → Memory.byte m (a + i) = Memory.byte m' (a + i)) : Memory.read m a n = Memory.read m' a n := by
  induction n generalizing a with
  | zero => rfl
  | succ n ih =>
    rw [Memory.read_succ, Memory.read_succ, ih (a + 1) (fun i hi => by
      rw [show a + 1 + i = a + (i + 1) by omega]; exact h _ (by omega))]
    rw [show Memory.byte m a = Memory.byte m' a from h 0 (by omega)]

/-! ## Stores that a fetch may not see -/

@[simp] theorem Memory.cells_zero (m : List Host.Cell) (a : Nat) : Memory.cells m a 0 = [] := rfl

/-- The cells of a range hold what its bytes hold, and no other address. -/
theorem Memory.lookup_cells (m : List Host.Cell) (a n b : Nat) :
    (Memory.cells m a n).lookup b = if a ≤ b ∧ b < a + n then some (Memory.byte m b) else none := by
  induction n generalizing a with
  | zero => rw [if_neg (by omega)]; rfl
  | succ n ih =>
    unfold Memory.cells
    by_cases h : b = a
    · subst h; rw [if_pos (by omega)]; simp [List.lookup]
    · rw [List.lookup, beq_eq_false_iff_ne.mpr h]
      simp only [ih]
      by_cases hr : a + 1 ≤ b ∧ b < a + 1 + n
      · rw [if_pos hr, if_pos (by omega)]
      · rw [if_neg hr, if_neg (by omega)]

/-- Leaving out the addresses of a list leaves the rest of a record as it was. -/
theorem StoreRecord.lookup_without (r : StoreRecord) (l : List Host.Cell) (a : Nat) :
    (r.without l).before.lookup a = if (l.lookup a).isNone then r.before.lookup a else none := by
  unfold StoreRecord.without
  dsimp only
  induction r.before with
  | nil => simp
  | cons c t ih =>
    obtain ⟨k, v⟩ := c
    by_cases h : a = k
    · subst h
      by_cases hl : (l.lookup a).isNone = true
      · simp [hl, List.filter, List.lookup]
      · simp only [List.filter, hl]
        rw [ih]; simp [hl]
    · have hb : (a == k) = false := beq_eq_false_iff_ne.mpr h
      by_cases hl : (l.lookup k).isNone = true
      · simp only [List.filter, hl, List.lookup, hb, ih]
      · simp only [List.filter, hl, List.lookup, hb, ih]

/-- A byte that no record holds is fetched as it stands. -/
theorem Unseen.byte_of_untouched {a : Nat} {l : List StoreRecord} (h : ∀ r ∈ l, r.before.lookup a = none) (own ext : Nat)
    (now : Byte) : Unseen.byte a l own ext now = now := by
  induction l generalizing own ext with
  | nil => rfl
  | cons r rs ih =>
    have hr := h r List.mem_cons_self
    have hrs := ih (fun r' h' => h r' (List.mem_cons_of_mem _ h'))
    unfold Unseen.byte
    split <;> simp [hr, hrs]

/-- A fetch that sees every store finds the byte as it stands. -/
theorem Unseen.byte_all_seen (a : Nat) (l : List StoreRecord) (now : Byte) : Unseen.byte a l 0 0 now = now := by
  induction l with
  | nil => rfl
  | cons r rs ih =>
    unfold Unseen.byte
    split
    · split
      · rfl
      · exact ih
    · simp_all
    · split
      · rfl
      · exact ih
    · simp_all

/-- A word whose bytes are fetched as they stand is the word in memory. -/
theorem Unseen.read_eq {m : List Host.Cell} {l : List StoreRecord} {own ext a n : Nat}
    (h : ∀ i, i < n → Unseen.byte (a + i) l own ext (Memory.byte m (a + i)) = Memory.byte m (a + i)) :
    Unseen.read m l own ext a n = Memory.read m a n := by
  induction n generalizing a with
  | zero => rfl
  | succ n ih =>
    unfold Unseen.read
    rw [Memory.read_succ, ih (fun i hi => by rw [show a + 1 + i = a + (i + 1) by omega]; exact h _ (by omega))]
    rw [show Unseen.byte a l own ext (Memory.byte m a) = Memory.byte m a from h 0 (by omega)]

/-- After an IBAR no store of this core is left unseen, and what is left is what there was with fewer bytes (R102). -/
theorem Unseen.mem_sync {l : List StoreRecord} {r : StoreRecord} (h : r ∈ Unseen.sync l) :
    r.own = false ∧ ∀ a, (∀ q ∈ l, q.before.lookup a = none) → r.before.lookup a = none := by
  induction l generalizing r with
  | nil => cases h
  | cons q qs ih =>
    unfold Unseen.sync at h
    split at h
    · obtain ⟨p, hp, rfl⟩ := List.mem_map.mp h
      obtain ⟨h1, h2⟩ := ih hp
      refine ⟨h1, fun a ha => ?_⟩
      rw [StoreRecord.lookup_without, h2 a (fun x hx => ha x (List.mem_cons_of_mem _ hx))]
      split <;> rfl
    · rcases List.mem_cons.mp h with rfl | h
      · rename_i hq
        exact ⟨by simpa using hq, fun a ha => ha _ List.mem_cons_self⟩
      · exact ⟨(ih h).1, fun a ha => (ih h).2 a (fun x hx => ha x (List.mem_cons_of_mem _ hx))⟩

/-- After an IBAR no record holds a byte that this core stored to last (R102, R297). -/
theorem Unseen.sync_own {r : StoreRecord} {l : List StoreRecord} (hr : r.own = true) {a : Nat}
    (ha : (r.before.lookup a).isSome = true) : ∀ q ∈ Unseen.sync (r :: l), q.before.lookup a = none := by
  intro q hq
  unfold Unseen.sync at hq
  rw [if_pos hr] at hq
  obtain ⟨p, -, rfl⟩ := List.mem_map.mp hq
  rw [StoreRecord.lookup_without, if_neg]
  simpa using Option.isSome_iff_ne_none.mp ha

end Sys2Proof.Machine
end

