-- ==== Sys2Proof/Laws/State.lean ====
section
/-!
SUPPORT. Where each update of the state leaves each field: one lemma per field per update, so that no proof unfolds a record
update.
-/
namespace Sys2Proof.Machine

@[simp] theorem State.advance_gpr (s : State) : (s.advance).gpr = s.gpr := rfl
@[simp] theorem State.advance_fpr (s : State) : (s.advance).fpr = s.fpr := rfl
@[simp] theorem State.advance_cfr (s : State) : (s.advance).cfr = s.cfr := rfl
@[simp] theorem State.advance_fcsr0 (s : State) : (s.advance).fcsr0 = s.fcsr0 := rfl
@[simp] theorem State.advance_csr (s : State) : (s.advance).csr = s.csr := rfl
@[simp] theorem State.advance_tlb (s : State) : (s.advance).tlb = s.tlb := rfl
@[simp] theorem State.advance_llbit (s : State) : (s.advance).llbit = s.llbit := rfl
@[simp] theorem State.advance_llAddr (s : State) : (s.advance).llAddr = s.llAddr := rfl
@[simp] theorem State.advance_mem (s : State) : (s.advance).mem = s.mem := rfl
@[simp] theorem State.advance_unseen (s : State) : (s.advance).unseen = s.unseen := rfl
@[simp] theorem State.advance_stableCounter (s : State) : (s.advance).stableCounter = s.stableCounter := rfl
@[simp] theorem State.advance_timer (s : State) : (s.advance).timer = s.timer := rfl
@[simp] theorem State.advance_timerRunning (s : State) : (s.advance).timerRunning = s.timerRunning := rfl
@[simp] theorem State.advance_hwi (s : State) : (s.advance).hwi = s.hwi := rfl
@[simp] theorem State.advance_ipi (s : State) : (s.advance).ipi = s.ipi := rfl
@[simp] theorem State.advance_idle (s : State) : (s.advance).idle = s.idle := rfl
@[simp] theorem State.advance_draws (s : State) : (s.advance).draws = s.draws := rfl
@[simp] theorem State.advance_env (s : State) : (s.advance).env = s.env := rfl
@[simp] theorem State.advance_plat (s : State) : (s.advance).plat = s.plat := rfl

@[simp] theorem State.jump_gpr (s : State) (t : Word) : (s.jump t).gpr = s.gpr := rfl
@[simp] theorem State.jump_fpr (s : State) (t : Word) : (s.jump t).fpr = s.fpr := rfl
@[simp] theorem State.jump_cfr (s : State) (t : Word) : (s.jump t).cfr = s.cfr := rfl
@[simp] theorem State.jump_fcsr0 (s : State) (t : Word) : (s.jump t).fcsr0 = s.fcsr0 := rfl
@[simp] theorem State.jump_csr (s : State) (t : Word) : (s.jump t).csr = s.csr := rfl
@[simp] theorem State.jump_tlb (s : State) (t : Word) : (s.jump t).tlb = s.tlb := rfl
@[simp] theorem State.jump_llbit (s : State) (t : Word) : (s.jump t).llbit = s.llbit := rfl
@[simp] theorem State.jump_llAddr (s : State) (t : Word) : (s.jump t).llAddr = s.llAddr := rfl
@[simp] theorem State.jump_mem (s : State) (t : Word) : (s.jump t).mem = s.mem := rfl
@[simp] theorem State.jump_unseen (s : State) (t : Word) : (s.jump t).unseen = s.unseen := rfl
@[simp] theorem State.jump_stableCounter (s : State) (t : Word) : (s.jump t).stableCounter = s.stableCounter := rfl
@[simp] theorem State.jump_timer (s : State) (t : Word) : (s.jump t).timer = s.timer := rfl
@[simp] theorem State.jump_timerRunning (s : State) (t : Word) : (s.jump t).timerRunning = s.timerRunning := rfl
@[simp] theorem State.jump_hwi (s : State) (t : Word) : (s.jump t).hwi = s.hwi := rfl
@[simp] theorem State.jump_ipi (s : State) (t : Word) : (s.jump t).ipi = s.ipi := rfl
@[simp] theorem State.jump_idle (s : State) (t : Word) : (s.jump t).idle = s.idle := rfl
@[simp] theorem State.jump_draws (s : State) (t : Word) : (s.jump t).draws = s.draws := rfl
@[simp] theorem State.jump_env (s : State) (t : Word) : (s.jump t).env = s.env := rfl
@[simp] theorem State.jump_plat (s : State) (t : Word) : (s.jump t).plat = s.plat := rfl

@[simp] theorem State.setReg_pc (s : State) (r : GReg) (v : Word) : (s.setReg r v).pc = s.pc := by
  unfold State.setReg; split <;> rfl
@[simp] theorem State.setReg_fpr (s : State) (r : GReg) (v : Word) : (s.setReg r v).fpr = s.fpr := by
  unfold State.setReg; split <;> rfl
@[simp] theorem State.setReg_cfr (s : State) (r : GReg) (v : Word) : (s.setReg r v).cfr = s.cfr := by
  unfold State.setReg; split <;> rfl
@[simp] theorem State.setReg_fcsr0 (s : State) (r : GReg) (v : Word) : (s.setReg r v).fcsr0 = s.fcsr0 := by
  unfold State.setReg; split <;> rfl
@[simp] theorem State.setReg_csr (s : State) (r : GReg) (v : Word) : (s.setReg r v).csr = s.csr := by
  unfold State.setReg; split <;> rfl
@[simp] theorem State.setReg_tlb (s : State) (r : GReg) (v : Word) : (s.setReg r v).tlb = s.tlb := by
  unfold State.setReg; split <;> rfl
@[simp] theorem State.setReg_llbit (s : State) (r : GReg) (v : Word) : (s.setReg r v).llbit = s.llbit := by
  unfold State.setReg; split <;> rfl
@[simp] theorem State.setReg_llAddr (s : State) (r : GReg) (v : Word) : (s.setReg r v).llAddr = s.llAddr := by
  unfold State.setReg; split <;> rfl
@[simp] theorem State.setReg_mem (s : State) (r : GReg) (v : Word) : (s.setReg r v).mem = s.mem := by
  unfold State.setReg; split <;> rfl
@[simp] theorem State.setReg_unseen (s : State) (r : GReg) (v : Word) : (s.setReg r v).unseen = s.unseen := by
  unfold State.setReg; split <;> rfl
@[simp] theorem State.setReg_stableCounter (s : State) (r : GReg) (v : Word) : (s.setReg r v).stableCounter = s.stableCounter := by
  unfold State.setReg; split <;> rfl
@[simp] theorem State.setReg_timer (s : State) (r : GReg) (v : Word) : (s.setReg r v).timer = s.timer := by
  unfold State.setReg; split <;> rfl
@[simp] theorem State.setReg_timerRunning (s : State) (r : GReg) (v : Word) : (s.setReg r v).timerRunning = s.timerRunning := by
  unfold State.setReg; split <;> rfl
@[simp] theorem State.setReg_hwi (s : State) (r : GReg) (v : Word) : (s.setReg r v).hwi = s.hwi := by
  unfold State.setReg; split <;> rfl
@[simp] theorem State.setReg_ipi (s : State) (r : GReg) (v : Word) : (s.setReg r v).ipi = s.ipi := by
  unfold State.setReg; split <;> rfl
@[simp] theorem State.setReg_idle (s : State) (r : GReg) (v : Word) : (s.setReg r v).idle = s.idle := by
  unfold State.setReg; split <;> rfl
@[simp] theorem State.setReg_draws (s : State) (r : GReg) (v : Word) : (s.setReg r v).draws = s.draws := by
  unfold State.setReg; split <;> rfl
@[simp] theorem State.setReg_env (s : State) (r : GReg) (v : Word) : (s.setReg r v).env = s.env := by
  unfold State.setReg; split <;> rfl
@[simp] theorem State.setReg_plat (s : State) (r : GReg) (v : Word) : (s.setReg r v).plat = s.plat := by
  unfold State.setReg; split <;> rfl

@[simp] theorem State.setFreg_gpr (s : State) (r : FReg) (v : DWord) : (s.setFreg r v).gpr = s.gpr := rfl
@[simp] theorem State.setFreg_pc (s : State) (r : FReg) (v : DWord) : (s.setFreg r v).pc = s.pc := rfl
@[simp] theorem State.setFreg_cfr (s : State) (r : FReg) (v : DWord) : (s.setFreg r v).cfr = s.cfr := rfl
@[simp] theorem State.setFreg_fcsr0 (s : State) (r : FReg) (v : DWord) : (s.setFreg r v).fcsr0 = s.fcsr0 := rfl
@[simp] theorem State.setFreg_csr (s : State) (r : FReg) (v : DWord) : (s.setFreg r v).csr = s.csr := rfl
@[simp] theorem State.setFreg_tlb (s : State) (r : FReg) (v : DWord) : (s.setFreg r v).tlb = s.tlb := rfl
@[simp] theorem State.setFreg_llbit (s : State) (r : FReg) (v : DWord) : (s.setFreg r v).llbit = s.llbit := rfl
@[simp] theorem State.setFreg_llAddr (s : State) (r : FReg) (v : DWord) : (s.setFreg r v).llAddr = s.llAddr := rfl
@[simp] theorem State.setFreg_mem (s : State) (r : FReg) (v : DWord) : (s.setFreg r v).mem = s.mem := rfl
@[simp] theorem State.setFreg_unseen (s : State) (r : FReg) (v : DWord) : (s.setFreg r v).unseen = s.unseen := rfl
@[simp] theorem State.setFreg_stableCounter (s : State) (r : FReg) (v : DWord) : (s.setFreg r v).stableCounter = s.stableCounter := rfl
@[simp] theorem State.setFreg_timer (s : State) (r : FReg) (v : DWord) : (s.setFreg r v).timer = s.timer := rfl
@[simp] theorem State.setFreg_timerRunning (s : State) (r : FReg) (v : DWord) : (s.setFreg r v).timerRunning = s.timerRunning := rfl
@[simp] theorem State.setFreg_hwi (s : State) (r : FReg) (v : DWord) : (s.setFreg r v).hwi = s.hwi := rfl
@[simp] theorem State.setFreg_ipi (s : State) (r : FReg) (v : DWord) : (s.setFreg r v).ipi = s.ipi := rfl
@[simp] theorem State.setFreg_idle (s : State) (r : FReg) (v : DWord) : (s.setFreg r v).idle = s.idle := rfl
@[simp] theorem State.setFreg_draws (s : State) (r : FReg) (v : DWord) : (s.setFreg r v).draws = s.draws := rfl
@[simp] theorem State.setFreg_env (s : State) (r : FReg) (v : DWord) : (s.setFreg r v).env = s.env := rfl
@[simp] theorem State.setFreg_plat (s : State) (r : FReg) (v : DWord) : (s.setFreg r v).plat = s.plat := rfl

@[simp] theorem State.setFregLow_gpr (s : State) (r : FReg) (v : Word) : (s.setFregLow r v).gpr = s.gpr := rfl
@[simp] theorem State.setFregLow_pc (s : State) (r : FReg) (v : Word) : (s.setFregLow r v).pc = s.pc := rfl
@[simp] theorem State.setFregLow_cfr (s : State) (r : FReg) (v : Word) : (s.setFregLow r v).cfr = s.cfr := rfl
@[simp] theorem State.setFregLow_fcsr0 (s : State) (r : FReg) (v : Word) : (s.setFregLow r v).fcsr0 = s.fcsr0 := rfl
@[simp] theorem State.setFregLow_csr (s : State) (r : FReg) (v : Word) : (s.setFregLow r v).csr = s.csr := rfl
@[simp] theorem State.setFregLow_tlb (s : State) (r : FReg) (v : Word) : (s.setFregLow r v).tlb = s.tlb := rfl
@[simp] theorem State.setFregLow_llbit (s : State) (r : FReg) (v : Word) : (s.setFregLow r v).llbit = s.llbit := rfl
@[simp] theorem State.setFregLow_llAddr (s : State) (r : FReg) (v : Word) : (s.setFregLow r v).llAddr = s.llAddr := rfl
@[simp] theorem State.setFregLow_mem (s : State) (r : FReg) (v : Word) : (s.setFregLow r v).mem = s.mem := rfl
@[simp] theorem State.setFregLow_unseen (s : State) (r : FReg) (v : Word) : (s.setFregLow r v).unseen = s.unseen := rfl
@[simp] theorem State.setFregLow_stableCounter (s : State) (r : FReg) (v : Word) : (s.setFregLow r v).stableCounter = s.stableCounter := rfl
@[simp] theorem State.setFregLow_timer (s : State) (r : FReg) (v : Word) : (s.setFregLow r v).timer = s.timer := rfl
@[simp] theorem State.setFregLow_timerRunning (s : State) (r : FReg) (v : Word) : (s.setFregLow r v).timerRunning = s.timerRunning := rfl
@[simp] theorem State.setFregLow_hwi (s : State) (r : FReg) (v : Word) : (s.setFregLow r v).hwi = s.hwi := rfl
@[simp] theorem State.setFregLow_ipi (s : State) (r : FReg) (v : Word) : (s.setFregLow r v).ipi = s.ipi := rfl
@[simp] theorem State.setFregLow_idle (s : State) (r : FReg) (v : Word) : (s.setFregLow r v).idle = s.idle := rfl
@[simp] theorem State.setFregLow_env (s : State) (r : FReg) (v : Word) : (s.setFregLow r v).env = s.env := rfl
@[simp] theorem State.setFregLow_plat (s : State) (r : FReg) (v : Word) : (s.setFregLow r v).plat = s.plat := rfl

@[simp] theorem State.setFregHigh_gpr (s : State) (r : FReg) (v : Word) : (s.setFregHigh r v).gpr = s.gpr := rfl
@[simp] theorem State.setFregHigh_pc (s : State) (r : FReg) (v : Word) : (s.setFregHigh r v).pc = s.pc := rfl
@[simp] theorem State.setFregHigh_cfr (s : State) (r : FReg) (v : Word) : (s.setFregHigh r v).cfr = s.cfr := rfl
@[simp] theorem State.setFregHigh_fcsr0 (s : State) (r : FReg) (v : Word) : (s.setFregHigh r v).fcsr0 = s.fcsr0 := rfl
@[simp] theorem State.setFregHigh_csr (s : State) (r : FReg) (v : Word) : (s.setFregHigh r v).csr = s.csr := rfl
@[simp] theorem State.setFregHigh_tlb (s : State) (r : FReg) (v : Word) : (s.setFregHigh r v).tlb = s.tlb := rfl
@[simp] theorem State.setFregHigh_llbit (s : State) (r : FReg) (v : Word) : (s.setFregHigh r v).llbit = s.llbit := rfl
@[simp] theorem State.setFregHigh_llAddr (s : State) (r : FReg) (v : Word) : (s.setFregHigh r v).llAddr = s.llAddr := rfl
@[simp] theorem State.setFregHigh_mem (s : State) (r : FReg) (v : Word) : (s.setFregHigh r v).mem = s.mem := rfl
@[simp] theorem State.setFregHigh_unseen (s : State) (r : FReg) (v : Word) : (s.setFregHigh r v).unseen = s.unseen := rfl
@[simp] theorem State.setFregHigh_stableCounter (s : State) (r : FReg) (v : Word) : (s.setFregHigh r v).stableCounter = s.stableCounter := rfl
@[simp] theorem State.setFregHigh_timer (s : State) (r : FReg) (v : Word) : (s.setFregHigh r v).timer = s.timer := rfl
@[simp] theorem State.setFregHigh_timerRunning (s : State) (r : FReg) (v : Word) : (s.setFregHigh r v).timerRunning = s.timerRunning := rfl
@[simp] theorem State.setFregHigh_hwi (s : State) (r : FReg) (v : Word) : (s.setFregHigh r v).hwi = s.hwi := rfl
@[simp] theorem State.setFregHigh_ipi (s : State) (r : FReg) (v : Word) : (s.setFregHigh r v).ipi = s.ipi := rfl
@[simp] theorem State.setFregHigh_idle (s : State) (r : FReg) (v : Word) : (s.setFregHigh r v).idle = s.idle := rfl
@[simp] theorem State.setFregHigh_draws (s : State) (r : FReg) (v : Word) : (s.setFregHigh r v).draws = s.draws := rfl
@[simp] theorem State.setFregHigh_env (s : State) (r : FReg) (v : Word) : (s.setFregHigh r v).env = s.env := rfl
@[simp] theorem State.setFregHigh_plat (s : State) (r : FReg) (v : Word) : (s.setFregHigh r v).plat = s.plat := rfl

@[simp] theorem State.setCflag_gpr (s : State) (c : CReg) (v : Bool) : (s.setCflag c v).gpr = s.gpr := rfl
@[simp] theorem State.setCflag_pc (s : State) (c : CReg) (v : Bool) : (s.setCflag c v).pc = s.pc := rfl
@[simp] theorem State.setCflag_fpr (s : State) (c : CReg) (v : Bool) : (s.setCflag c v).fpr = s.fpr := rfl
@[simp] theorem State.setCflag_fcsr0 (s : State) (c : CReg) (v : Bool) : (s.setCflag c v).fcsr0 = s.fcsr0 := rfl
@[simp] theorem State.setCflag_csr (s : State) (c : CReg) (v : Bool) : (s.setCflag c v).csr = s.csr := rfl
@[simp] theorem State.setCflag_tlb (s : State) (c : CReg) (v : Bool) : (s.setCflag c v).tlb = s.tlb := rfl
@[simp] theorem State.setCflag_llbit (s : State) (c : CReg) (v : Bool) : (s.setCflag c v).llbit = s.llbit := rfl
@[simp] theorem State.setCflag_llAddr (s : State) (c : CReg) (v : Bool) : (s.setCflag c v).llAddr = s.llAddr := rfl
@[simp] theorem State.setCflag_mem (s : State) (c : CReg) (v : Bool) : (s.setCflag c v).mem = s.mem := rfl
@[simp] theorem State.setCflag_unseen (s : State) (c : CReg) (v : Bool) : (s.setCflag c v).unseen = s.unseen := rfl
@[simp] theorem State.setCflag_stableCounter (s : State) (c : CReg) (v : Bool) : (s.setCflag c v).stableCounter = s.stableCounter := rfl
@[simp] theorem State.setCflag_timer (s : State) (c : CReg) (v : Bool) : (s.setCflag c v).timer = s.timer := rfl
@[simp] theorem State.setCflag_timerRunning (s : State) (c : CReg) (v : Bool) : (s.setCflag c v).timerRunning = s.timerRunning := rfl
@[simp] theorem State.setCflag_hwi (s : State) (c : CReg) (v : Bool) : (s.setCflag c v).hwi = s.hwi := rfl
@[simp] theorem State.setCflag_ipi (s : State) (c : CReg) (v : Bool) : (s.setCflag c v).ipi = s.ipi := rfl
@[simp] theorem State.setCflag_idle (s : State) (c : CReg) (v : Bool) : (s.setCflag c v).idle = s.idle := rfl
@[simp] theorem State.setCflag_draws (s : State) (c : CReg) (v : Bool) : (s.setCflag c v).draws = s.draws := rfl
@[simp] theorem State.setCflag_env (s : State) (c : CReg) (v : Bool) : (s.setCflag c v).env = s.env := rfl
@[simp] theorem State.setCflag_plat (s : State) (c : CReg) (v : Bool) : (s.setCflag c v).plat = s.plat := rfl

@[simp] theorem State.setFpCause_gpr (s : State) (e : FpFlags) : (s.setFpCause e).gpr = s.gpr := rfl
@[simp] theorem State.setFpCause_pc (s : State) (e : FpFlags) : (s.setFpCause e).pc = s.pc := rfl
@[simp] theorem State.setFpCause_fpr (s : State) (e : FpFlags) : (s.setFpCause e).fpr = s.fpr := rfl
@[simp] theorem State.setFpCause_cfr (s : State) (e : FpFlags) : (s.setFpCause e).cfr = s.cfr := rfl
@[simp] theorem State.setFpCause_csr (s : State) (e : FpFlags) : (s.setFpCause e).csr = s.csr := rfl
@[simp] theorem State.setFpCause_tlb (s : State) (e : FpFlags) : (s.setFpCause e).tlb = s.tlb := rfl
@[simp] theorem State.setFpCause_llbit (s : State) (e : FpFlags) : (s.setFpCause e).llbit = s.llbit := rfl
@[simp] theorem State.setFpCause_llAddr (s : State) (e : FpFlags) : (s.setFpCause e).llAddr = s.llAddr := rfl
@[simp] theorem State.setFpCause_mem (s : State) (e : FpFlags) : (s.setFpCause e).mem = s.mem := rfl
@[simp] theorem State.setFpCause_unseen (s : State) (e : FpFlags) : (s.setFpCause e).unseen = s.unseen := rfl
@[simp] theorem State.setFpCause_stableCounter (s : State) (e : FpFlags) : (s.setFpCause e).stableCounter = s.stableCounter := rfl
@[simp] theorem State.setFpCause_timer (s : State) (e : FpFlags) : (s.setFpCause e).timer = s.timer := rfl
@[simp] theorem State.setFpCause_timerRunning (s : State) (e : FpFlags) : (s.setFpCause e).timerRunning = s.timerRunning := rfl
@[simp] theorem State.setFpCause_hwi (s : State) (e : FpFlags) : (s.setFpCause e).hwi = s.hwi := rfl
@[simp] theorem State.setFpCause_ipi (s : State) (e : FpFlags) : (s.setFpCause e).ipi = s.ipi := rfl
@[simp] theorem State.setFpCause_idle (s : State) (e : FpFlags) : (s.setFpCause e).idle = s.idle := rfl
@[simp] theorem State.setFpCause_draws (s : State) (e : FpFlags) : (s.setFpCause e).draws = s.draws := rfl
@[simp] theorem State.setFpCause_env (s : State) (e : FpFlags) : (s.setFpCause e).env = s.env := rfl
@[simp] theorem State.setFpCause_plat (s : State) (e : FpFlags) : (s.setFpCause e).plat = s.plat := rfl

@[simp] theorem State.addFpFlags_gpr (s : State) (e : FpFlags) : (s.addFpFlags e).gpr = s.gpr := rfl
@[simp] theorem State.addFpFlags_pc (s : State) (e : FpFlags) : (s.addFpFlags e).pc = s.pc := rfl
@[simp] theorem State.addFpFlags_fpr (s : State) (e : FpFlags) : (s.addFpFlags e).fpr = s.fpr := rfl
@[simp] theorem State.addFpFlags_cfr (s : State) (e : FpFlags) : (s.addFpFlags e).cfr = s.cfr := rfl
@[simp] theorem State.addFpFlags_csr (s : State) (e : FpFlags) : (s.addFpFlags e).csr = s.csr := rfl
@[simp] theorem State.addFpFlags_tlb (s : State) (e : FpFlags) : (s.addFpFlags e).tlb = s.tlb := rfl
@[simp] theorem State.addFpFlags_llbit (s : State) (e : FpFlags) : (s.addFpFlags e).llbit = s.llbit := rfl
@[simp] theorem State.addFpFlags_llAddr (s : State) (e : FpFlags) : (s.addFpFlags e).llAddr = s.llAddr := rfl
@[simp] theorem State.addFpFlags_mem (s : State) (e : FpFlags) : (s.addFpFlags e).mem = s.mem := rfl
@[simp] theorem State.addFpFlags_unseen (s : State) (e : FpFlags) : (s.addFpFlags e).unseen = s.unseen := rfl
@[simp] theorem State.addFpFlags_stableCounter (s : State) (e : FpFlags) : (s.addFpFlags e).stableCounter = s.stableCounter := rfl
@[simp] theorem State.addFpFlags_timer (s : State) (e : FpFlags) : (s.addFpFlags e).timer = s.timer := rfl
@[simp] theorem State.addFpFlags_timerRunning (s : State) (e : FpFlags) : (s.addFpFlags e).timerRunning = s.timerRunning := rfl
@[simp] theorem State.addFpFlags_hwi (s : State) (e : FpFlags) : (s.addFpFlags e).hwi = s.hwi := rfl
@[simp] theorem State.addFpFlags_ipi (s : State) (e : FpFlags) : (s.addFpFlags e).ipi = s.ipi := rfl
@[simp] theorem State.addFpFlags_idle (s : State) (e : FpFlags) : (s.addFpFlags e).idle = s.idle := rfl
@[simp] theorem State.addFpFlags_draws (s : State) (e : FpFlags) : (s.addFpFlags e).draws = s.draws := rfl
@[simp] theorem State.addFpFlags_env (s : State) (e : FpFlags) : (s.addFpFlags e).env = s.env := rfl
@[simp] theorem State.addFpFlags_plat (s : State) (e : FpFlags) : (s.addFpFlags e).plat = s.plat := rfl

@[simp] theorem State.writeMem_gpr (s : State) (pa n : Nat) (v : BitVec (8 * n)) : (s.writeMem pa n v).gpr = s.gpr := rfl
@[simp] theorem State.writeMem_pc (s : State) (pa n : Nat) (v : BitVec (8 * n)) : (s.writeMem pa n v).pc = s.pc := rfl
@[simp] theorem State.writeMem_fpr (s : State) (pa n : Nat) (v : BitVec (8 * n)) : (s.writeMem pa n v).fpr = s.fpr := rfl
@[simp] theorem State.writeMem_cfr (s : State) (pa n : Nat) (v : BitVec (8 * n)) : (s.writeMem pa n v).cfr = s.cfr := rfl
@[simp] theorem State.writeMem_fcsr0 (s : State) (pa n : Nat) (v : BitVec (8 * n)) : (s.writeMem pa n v).fcsr0 = s.fcsr0 := rfl
@[simp] theorem State.writeMem_csr (s : State) (pa n : Nat) (v : BitVec (8 * n)) : (s.writeMem pa n v).csr = s.csr := rfl
@[simp] theorem State.writeMem_tlb (s : State) (pa n : Nat) (v : BitVec (8 * n)) : (s.writeMem pa n v).tlb = s.tlb := rfl
@[simp] theorem State.writeMem_llbit (s : State) (pa n : Nat) (v : BitVec (8 * n)) : (s.writeMem pa n v).llbit = s.llbit := rfl
@[simp] theorem State.writeMem_llAddr (s : State) (pa n : Nat) (v : BitVec (8 * n)) : (s.writeMem pa n v).llAddr = s.llAddr := rfl
@[simp] theorem State.writeMem_stableCounter (s : State) (pa n : Nat) (v : BitVec (8 * n)) : (s.writeMem pa n v).stableCounter = s.stableCounter := rfl
@[simp] theorem State.writeMem_timer (s : State) (pa n : Nat) (v : BitVec (8 * n)) : (s.writeMem pa n v).timer = s.timer := rfl
@[simp] theorem State.writeMem_timerRunning (s : State) (pa n : Nat) (v : BitVec (8 * n)) : (s.writeMem pa n v).timerRunning = s.timerRunning := rfl
@[simp] theorem State.writeMem_hwi (s : State) (pa n : Nat) (v : BitVec (8 * n)) : (s.writeMem pa n v).hwi = s.hwi := rfl
@[simp] theorem State.writeMem_ipi (s : State) (pa n : Nat) (v : BitVec (8 * n)) : (s.writeMem pa n v).ipi = s.ipi := rfl
@[simp] theorem State.writeMem_idle (s : State) (pa n : Nat) (v : BitVec (8 * n)) : (s.writeMem pa n v).idle = s.idle := rfl
@[simp] theorem State.writeMem_draws (s : State) (pa n : Nat) (v : BitVec (8 * n)) : (s.writeMem pa n v).draws = s.draws := rfl
@[simp] theorem State.writeMem_env (s : State) (pa n : Nat) (v : BitVec (8 * n)) : (s.writeMem pa n v).env = s.env := rfl
@[simp] theorem State.writeMem_plat (s : State) (pa n : Nat) (v : BitVec (8 * n)) : (s.writeMem pa n v).plat = s.plat := rfl

@[simp] theorem State.trapEntry_gpr (s : State) (e : Exc) (va : Word) : (s.trapEntry e va).gpr = s.gpr := rfl
@[simp] theorem State.trapEntry_fpr (s : State) (e : Exc) (va : Word) : (s.trapEntry e va).fpr = s.fpr := rfl
@[simp] theorem State.trapEntry_cfr (s : State) (e : Exc) (va : Word) : (s.trapEntry e va).cfr = s.cfr := rfl
@[simp] theorem State.trapEntry_fcsr0 (s : State) (e : Exc) (va : Word) : (s.trapEntry e va).fcsr0 = s.fcsr0 := rfl
@[simp] theorem State.trapEntry_tlb (s : State) (e : Exc) (va : Word) : (s.trapEntry e va).tlb = s.tlb := rfl
@[simp] theorem State.trapEntry_llbit (s : State) (e : Exc) (va : Word) : (s.trapEntry e va).llbit = s.llbit := rfl
@[simp] theorem State.trapEntry_llAddr (s : State) (e : Exc) (va : Word) : (s.trapEntry e va).llAddr = s.llAddr := rfl
@[simp] theorem State.trapEntry_mem (s : State) (e : Exc) (va : Word) : (s.trapEntry e va).mem = s.mem := rfl
@[simp] theorem State.trapEntry_unseen (s : State) (e : Exc) (va : Word) : (s.trapEntry e va).unseen = s.unseen := rfl
@[simp] theorem State.trapEntry_stableCounter (s : State) (e : Exc) (va : Word) : (s.trapEntry e va).stableCounter = s.stableCounter := rfl
@[simp] theorem State.trapEntry_timer (s : State) (e : Exc) (va : Word) : (s.trapEntry e va).timer = s.timer := rfl
@[simp] theorem State.trapEntry_timerRunning (s : State) (e : Exc) (va : Word) : (s.trapEntry e va).timerRunning = s.timerRunning := rfl
@[simp] theorem State.trapEntry_hwi (s : State) (e : Exc) (va : Word) : (s.trapEntry e va).hwi = s.hwi := rfl
@[simp] theorem State.trapEntry_ipi (s : State) (e : Exc) (va : Word) : (s.trapEntry e va).ipi = s.ipi := rfl
@[simp] theorem State.trapEntry_idle (s : State) (e : Exc) (va : Word) : (s.trapEntry e va).idle = s.idle := rfl
@[simp] theorem State.trapEntry_draws (s : State) (e : Exc) (va : Word) : (s.trapEntry e va).draws = s.draws := rfl
@[simp] theorem State.trapEntry_env (s : State) (e : Exc) (va : Word) : (s.trapEntry e va).env = s.env := rfl
@[simp] theorem State.trapEntry_plat (s : State) (e : Exc) (va : Word) : (s.trapEntry e va).plat = s.plat := rfl

@[simp] theorem State.withFcsr_gpr (s : State) (w : Word) : (s.withFcsr w).gpr = s.gpr := rfl
@[simp] theorem State.withFcsr_pc (s : State) (w : Word) : (s.withFcsr w).pc = s.pc := rfl
@[simp] theorem State.withFcsr_fpr (s : State) (w : Word) : (s.withFcsr w).fpr = s.fpr := rfl
@[simp] theorem State.withFcsr_cfr (s : State) (w : Word) : (s.withFcsr w).cfr = s.cfr := rfl
@[simp] theorem State.withFcsr_csr (s : State) (w : Word) : (s.withFcsr w).csr = s.csr := rfl
@[simp] theorem State.withFcsr_tlb (s : State) (w : Word) : (s.withFcsr w).tlb = s.tlb := rfl
@[simp] theorem State.withFcsr_llbit (s : State) (w : Word) : (s.withFcsr w).llbit = s.llbit := rfl
@[simp] theorem State.withFcsr_llAddr (s : State) (w : Word) : (s.withFcsr w).llAddr = s.llAddr := rfl
@[simp] theorem State.withFcsr_mem (s : State) (w : Word) : (s.withFcsr w).mem = s.mem := rfl
@[simp] theorem State.withFcsr_unseen (s : State) (w : Word) : (s.withFcsr w).unseen = s.unseen := rfl
@[simp] theorem State.withFcsr_stableCounter (s : State) (w : Word) : (s.withFcsr w).stableCounter = s.stableCounter := rfl
@[simp] theorem State.withFcsr_timer (s : State) (w : Word) : (s.withFcsr w).timer = s.timer := rfl
@[simp] theorem State.withFcsr_timerRunning (s : State) (w : Word) : (s.withFcsr w).timerRunning = s.timerRunning := rfl
@[simp] theorem State.withFcsr_hwi (s : State) (w : Word) : (s.withFcsr w).hwi = s.hwi := rfl
@[simp] theorem State.withFcsr_ipi (s : State) (w : Word) : (s.withFcsr w).ipi = s.ipi := rfl
@[simp] theorem State.withFcsr_idle (s : State) (w : Word) : (s.withFcsr w).idle = s.idle := rfl
@[simp] theorem State.withFcsr_draws (s : State) (w : Word) : (s.withFcsr w).draws = s.draws := rfl
@[simp] theorem State.withFcsr_env (s : State) (w : Word) : (s.withFcsr w).env = s.env := rfl
@[simp] theorem State.withFcsr_plat (s : State) (w : Word) : (s.withFcsr w).plat = s.plat := rfl

@[simp] theorem State.advance_pc (s : State) : s.advance.pc = s.pc + 4#32 := rfl
@[simp] theorem State.jump_pc (s : State) (t : Word) : (s.jump t).pc = t := rfl
@[simp] theorem State.setFregLow_draws (s : State) (r : FReg) (v : Word) : (s.setFregLow r v).draws = s.draws + 1 := rfl
@[simp] theorem State.withFcsr_fcsr0 (s : State) (w : Word) : (s.withFcsr w).fcsr0 = w := rfl
@[simp] theorem State.writeMem_mem (s : State) (pa n : Nat) (v : BitVec (8 * n)) :
    (s.writeMem pa n v).mem = Memory.write s.mem pa n v := rfl
@[simp] theorem State.writeMem_unseen (s : State) (pa n : Nat) (v : BitVec (8 * n)) :
    (s.writeMem pa n v).unseen = ⟨true, Memory.cells s.mem pa n⟩ :: s.unseen := rfl

/-! ## Reading a register back -/

@[simp] theorem State.reg_zero (s : State) : s.reg 0#5 = 0#32 := rfl

/-- Reading a general register after a write (R21). -/
theorem State.reg_setReg (s : State) (r q : GReg) (v : Word) :
    (s.setReg r v).reg q = if q = r then (if r = 0#5 then 0#32 else v) else s.reg q := by
  unfold State.setReg State.reg
  by_cases hr : r = 0#5
  · subst hr; by_cases hq : q = 0#5 <;> simp [hq]
  · by_cases hq : q = 0#5
    · have : ¬ 0#5 = r := fun h => hr h.symm
      simp [hq, this]
    · by_cases hqr : q = r
      · subst hqr; simp [hr]
      · have : ¬ r.toNat = q.toNat := fun h => hqr (BitVec.eq_of_toNat_eq h.symm)
        simp [hr, hq, hqr, this]

@[simp] theorem State.reg_advance (s : State) (q : GReg) : s.advance.reg q = s.reg q := rfl
@[simp] theorem State.reg_jump (s : State) (t : Word) (q : GReg) : (s.jump t).reg q = s.reg q := rfl

/-- Reading a floating-point register after a write (R30). -/
theorem State.freg_setFreg (s : State) (r q : FReg) (v : DWord) :
    (s.setFreg r v).freg q = if q = r then v else s.freg q := by
  unfold State.setFreg State.freg
  by_cases hqr : q = r
  · subst hqr; simp
  · have : ¬ r.toNat = q.toNat := fun h => hqr (BitVec.eq_of_toNat_eq h.symm)
    simp [hqr, this]

@[simp] theorem State.freg_advance (s : State) (q : FReg) : s.advance.freg q = s.freg q := rfl

/-- Reading a floating-point register after a 32-bit write (R31). -/
theorem State.freg_setFregLow (s : State) (r q : FReg) (v : Word) :
    (s.setFregLow r v).freg q = if q = r then Config.freeHighHalf s.draws ++ v else s.freg q :=
  State.freg_setFreg s r q _

/-- The low half is what a 32-bit write put there (R31). -/
theorem State.fregLow_setFregLow (s : State) (r : FReg) (v : Word) : (s.setFregLow r v).fregLow r = v := by
  simp only [State.fregLow, State.freg_setFregLow, if_true]
  ext i hi
  rw [BitVec.getElem_extractLsb', BitVec.getLsbD_append]
  simp [hi]

/-- Reading a condition flag after a write (R33). -/
theorem State.cflag_setCflag (s : State) (r q : CReg) (v : Bool) :
    (s.setCflag r v).cflag q = if q = r then v else s.cflag q := by
  unfold State.setCflag State.cflag
  by_cases hqr : q = r
  · subst hqr; simp
  · have : ¬ r.toNat = q.toNat := fun h => hqr (BitVec.eq_of_toNat_eq h.symm)
    simp [hqr, this]

@[simp] theorem State.cflag_advance (s : State) (q : CReg) : s.advance.cflag q = s.cflag q := rfl

/-! ## The shapes of Sys2Proof/Safety.lean -/

/-- A register write and the advance are `WroteReg`. -/
theorem State.wroteReg_setReg_jump (s : State) (r : GReg) (v npc : Word) : WroteReg s ((s.setReg r v).jump npc) r v npc where
  dest := by simp [State.reg_setReg]
  others q hq := by simp [State.reg_setReg, hq]
  pc := rfl
  bytes _ := by simp
  rest := by unfold State.setReg; split <;> rfl

/-- A register write and the advance are `WroteReg`. -/
theorem State.wroteReg_setReg (s : State) (r : GReg) (v : Word) :
    WroteReg s (s.setReg r v).advance r v (s.pc + 4#32) := by
  have h := State.wroteReg_setReg_jump s r v ((s.setReg r v).pc + 4#32)
  rw [State.setReg_pc] at h
  have e : (s.setReg r v).advance = (s.setReg r v).jump (s.pc + 4#32) := by
    unfold State.advance State.jump; rw [State.setReg_pc]
  rw [e]; exact h

/-- A 64-bit register write and the advance are `WroteFreg`. -/
theorem State.wroteFreg_setFreg (s : State) (r : FReg) (v : DWord) : WroteFreg s (s.setFreg r v).advance r v where
  dest := by simp [State.freg_setFreg]
  others q hq := by simp [State.freg_setFreg, hq]
  pc := rfl
  bytes _ := rfl
  rest := rfl

/-- A 32-bit register write and the advance are `WroteFregLow`. -/
theorem State.wroteFregLow_setFregLow (s : State) (r : FReg) (v : Word) :
    WroteFregLow s (s.setFregLow r v).advance r v where
  dest := State.fregLow_setFregLow s r v
  others q hq := by simp [State.freg_setFregLow, hq]
  pc := rfl
  bytes _ := rfl
  rest := rfl

/-- A flag write and the advance are `WroteCflag`. -/
theorem State.wroteCflag_setCflag (s : State) (c : CReg) (v : Bool) : WroteCflag s (s.setCflag c v).advance c v where
  dest := by simp [State.cflag_setCflag]
  others q hq := by simp [State.cflag_setCflag, hq]
  pc := rfl
  bytes _ := rfl
  rest := rfl

end Sys2Proof.Machine
end

