-- ==== Sys2Proof/Laws/Ops.lean ====
section
/-!
SUPPORT. For each shared operation, one lemma that says once everything it can do; the provers cite these and unfold no
operation.
-/
namespace Sys2Proof.Machine

/-! ## Results -/

@[simp] theorem Res.ok_bind {α β : Type} (a : α) (f : α → Res β) : (Res.ok a).bind f = f a := rfl
@[simp] theorem Res.raise_bind {α β : Type} (e : Exc) (va : Word) (f : α → Res β) : (Res.raise e va).bind f = .raise e va := rfl
@[simp] theorem Res.fault_bind {α β : Type} (q : Fault) (f : α → Res β) : (Res.fault q).bind f = .fault q := rfl
@[simp] theorem Res.refuse_bind {α β : Type} (q : Refusal) (f : α → Res β) : (Res.refuse q).bind f = .refuse q := rfl

/-- A sequence has a value exactly when both parts have one. -/
theorem Res.bind_eq_ok {α β : Type} {r : Res α} {f : α → Res β} {b : β} :
    r.bind f = .ok b ↔ ∃ a, r = .ok a ∧ f a = .ok b := by
  cases r <;> simp [Res.bind]

/-- A sequence raises exactly when its first part does, or its second after a value of the first. -/
theorem Res.bind_eq_raise {α β : Type} {r : Res α} {f : α → Res β} {e : Exc} {va : Word} :
    r.bind f = .raise e va ↔ r = .raise e va ∨ ∃ a, r = .ok a ∧ f a = .raise e va := by
  cases r <;> simp [Res.bind]

@[simp] theorem State.complete_ok (s t : State) : s.complete (.ok t) = .next t := rfl
@[simp] theorem State.complete_raise (s : State) (e : Exc) (va : Word) :
    s.complete (.raise e va) = .next (s.trapEntry e va) := rfl

/-- An instruction goes on in the state it computed or in the trap entry of what it raised. -/
theorem State.complete_eq_next {s t : State} {r : Res State} :
    s.complete r = .next t ↔ r = .ok t ∨ ∃ e va, r = .raise e va ∧ t = s.trapEntry e va := by
  cases r <;> simp [State.complete, eq_comm]

/-- At PLV 0 the privilege check passes (R460). -/
theorem State.kernelOnly_ok {s : State} (h : s.plv = 0#2) : s.kernelOnly = .ok () := by simp [State.kernelOnly, h]
/-- At any other level it raises IPE (R460). -/
theorem State.kernelOnly_raise {s : State} (h : s.plv ≠ 0#2) : s.kernelOnly = .raise .ipe 0#32 := by
  simp [State.kernelOnly, h]
/-- With EUEN.FPE = 1 the floating-point check passes (R46). -/
theorem State.fpOnly_ok {s : State} (h : s.fpe = true) : s.fpOnly = .ok () := by simp [State.fpOnly, h]
/-- With EUEN.FPE = 0 it raises FPD (R46). -/
theorem State.fpOnly_raise {s : State} (h : s.fpe = false) : s.fpOnly = .raise .fpd 0#32 := by simp [State.fpOnly, h]

/-! ## Memory -/

/-- `aligned` is divisibility (R83). -/
theorem aligned_eq_true {a : Word} {n : Nat} : aligned a n = true ↔ a.toNat % n = 0 := by simp [aligned]

/-- Translation succeeds exactly when the address maps with an access type that is not reserved (R88, R90). -/
theorem State.translate_eq_ok {s : State} {va : Word} {k : Access} {pm : PAddr × BitVec 2} :
    s.translate va k = .ok pm ↔ s.mapAddress va k = .ok pm ∧ pm.2.getLsbD 1 = false := by
  unfold State.translate
  rw [Res.bind_eq_ok]
  constructor
  · rintro ⟨a, ha, h⟩
    split at h
    · cases h
    · rename_i hb
      cases h
      exact ⟨ha, by simpa using hb⟩
  · rintro ⟨h, hb⟩
    exact ⟨pm, h, by rw [hb]; rfl⟩

/-- What a load that has a value has checked and read (R84). -/
theorem State.load_eq_ok {s : State} {va : Word} {n : Nat} {v : BitVec (8 * n)} :
    s.load va n = .ok v ↔ aligned va n = true ∧ ∃ pm, s.translate va .load = .ok pm ∧
      s.plat.allows pm.1.toNat n = .ok () ∧ v = Memory.read s.mem pm.1.toNat n := by
  unfold State.load
  by_cases h : aligned va n = true
  · simp only [h, if_true, Res.bind_eq_ok, true_and]
    constructor
    · rintro ⟨pm, hp, u, hu, hv⟩
      exact ⟨pm, hp, hu, by simpa using hv.symm⟩
    · rintro ⟨pm, hp, hu, rfl⟩
      exact ⟨pm, hp, (), hu, rfl⟩
  · simp [h]

/-- A misaligned load raises ALE (R83). -/
theorem State.load_misaligned {s : State} {va : Word} {n : Nat} (h : aligned va n = false) :
    s.load va n = .raise .ale va := by simp [State.load, h]

/-- What a store that happens has checked and written (R85). -/
theorem State.store_eq_ok {s t : State} {va : Word} {n : Nat} {v : BitVec (8 * n)} :
    s.store va n v = .ok t ↔ aligned va n = true ∧ ∃ pm, s.translate va .store = .ok pm ∧
      s.plat.allows pm.1.toNat n = .ok () ∧ t = s.writeMem pm.1.toNat n v := by
  unfold State.store
  by_cases h : aligned va n = true
  · simp only [h, if_true, Res.bind_eq_ok, true_and]
    constructor
    · rintro ⟨pm, hp, u, hu, hv⟩
      exact ⟨pm, hp, hu, by simpa using hv.symm⟩
    · rintro ⟨pm, hp, hu, rfl⟩
      exact ⟨pm, hp, (), hu, rfl⟩
  · simp [h]

/-- A misaligned store raises ALE (R83). -/
theorem State.store_misaligned {s : State} {va : Word} {n : Nat} {v : BitVec (8 * n)} (h : aligned va n = false) :
    s.store va n v = .raise .ale va := by simp [State.store, h]

/-- An admitted range is RAM throughout (R89). -/
theorem Platform.allows_eq_ok {p : Platform} {a n : Nat} :
    p.allows a n = .ok () ↔ ∀ i, i < n → p.kindAt (a + i) = some .ram := by
  induction n generalizing a with
  | zero => simp [Platform.allows]
  | succ n ih =>
    unfold Platform.allows
    constructor
    · intro h i hi
      split at h
      · cases h
      · cases h
      · rename_i hk
        cases i with
        | zero => simpa using hk
        | succ i =>
          have := ih.mp h i (by omega)
          rwa [show a + (i + 1) = a + 1 + i by omega]
    · intro h
      have h0 := h 0 (by omega)
      rw [Nat.add_zero] at h0
      rw [h0]
      refine ih.mpr fun i hi => ?_
      have := h (i + 1) (by omega)
      rwa [show a + 1 + i = a + (i + 1) by omega]

/-- The words a fetch may return (R104): those that some of the newest stores are left out of. -/
theorem State.mem_fetchable {s : State} {pa : Nat} {w : Word} :
    w ∈ s.fetchable pa ↔ ∃ own ext, own ≤ (s.unseen.filter (·.touches pa 4)).length ∧
      ext ≤ (s.unseen.filter (·.touches pa 4)).length ∧
      w = Unseen.read s.mem (s.unseen.filter (·.touches pa 4)) own ext pa 4 := by
  unfold State.fetchable
  simp only [List.mem_flatMap, List.mem_map, List.mem_range, Nat.lt_succ_iff]
  constructor
  · rintro ⟨own, ho, ext, he, rfl⟩; exact ⟨own, ext, ho, he, rfl⟩
  · rintro ⟨own, ext, ho, he, rfl⟩; exact ⟨own, ho, ext, he, rfl⟩

/-- The word in memory is one of them. -/
theorem State.read_mem_fetchable (s : State) (pa : Nat) : (Memory.read s.mem pa 4 : Word) ∈ s.fetchable pa :=
  State.mem_fetchable.mpr ⟨0, 0, Nat.zero_le _, Nat.zero_le _, (Unseen.read_eq fun _ _ => Unseen.byte_all_seen ..).symm⟩

/-- Where no record holds a byte of the word, it is the only one. -/
theorem State.fetchable_of_untouched {s : State} {pa : Nat}
    (h : ∀ r ∈ s.unseen, ∀ i, i < 4 → r.before.lookup (pa + i) = none) :
    ∀ w ∈ s.fetchable pa, w = Memory.read s.mem pa 4 := by
  intro w hw
  obtain ⟨own, ext, -, -, rfl⟩ := State.mem_fetchable.mp hw
  exact Unseen.read_eq fun i hi => Unseen.byte_of_untouched (fun r hr => h r (List.mem_of_mem_filter hr) i hi) ..

/-- A fetch returns one of the words R104 allows and changes at most the count of free values. -/
theorem State.fetchWord_spec (s : State) (pa : Nat) :
    (s.fetchWord pa).1 ∈ s.fetchable pa ∧
      ((s.fetchWord pa).2 = s ∨ (s.fetchWord pa).2 = { s with draws := s.draws + 1 }) := by
  unfold State.fetchWord
  by_cases h : (s.fetchable pa).all (· == Memory.read s.mem pa 4) = true
  · simp only [h, if_true]
    exact ⟨s.read_mem_fetchable pa, Or.inl trivial⟩
  · simp only [h, Bool.false_eq_true, if_false]
    refine ⟨?_, Or.inr trivial⟩
    have hlt : Config.freeFetchPick s.draws % (s.fetchable pa).length < (s.fetchable pa).length :=
      Nat.mod_lt _ (List.length_pos_of_mem (s.read_mem_fetchable pa))
    rw [List.getD_eq_getElem _ _ hlt]
    exact List.getElem_mem hlt

/-- With no store since the last IBAR that shows, a fetch returns the bytes in memory (R86, R104). -/
theorem State.fetchWord_clean {s : State} {pa : Nat} (h : ∀ w ∈ s.fetchable pa, w = Memory.read s.mem pa 4) :
    s.fetchWord pa = (Memory.read s.mem pa 4, s) := by
  have : (s.fetchable pa).all (· == (Memory.read s.mem pa 4 : Word)) = true := by
    rw [List.all_eq_true]; intro w hw; simpa using h w hw
  simp only [State.fetchWord]
  rw [if_pos this]

/-- What a fetch that has a word has checked (R86). -/
theorem State.fetch_eq_ok {s : State} {wt : Word × State} :
    s.fetch = .ok wt ↔ aligned s.pc 4 = true ∧ ∃ pm, s.translate s.pc .fetch = .ok pm ∧
      s.plat.allows pm.1.toNat 4 = .ok () ∧ wt = s.fetchWord pm.1.toNat := by
  unfold State.fetch
  by_cases h : aligned s.pc 4 = true
  · simp only [h, if_true, Res.bind_eq_ok, true_and]
    constructor
    · rintro ⟨pm, hp, u, hu, hv⟩
      exact ⟨pm, hp, hu, by simpa using hv.symm⟩
    · rintro ⟨pm, hp, hu, rfl⟩
      exact ⟨pm, hp, (), hu, rfl⟩
  · simp [h]

/-- What an LL.W that completes has checked and done (R291, R294). -/
theorem State.loadLinked_eq_ok {s : State} {va : Word} {wt : Word × State} :
    s.loadLinked va = .ok wt ↔ aligned va 4 = true ∧ ∃ pa, s.translate va .load = .ok (pa, 1#2) ∧
      s.plat.allows pa.toNat 4 = .ok () ∧ wt = (Memory.read s.mem pa.toNat 4, { s with llbit := true, llAddr := pa }) := by
  unfold State.loadLinked
  by_cases h : aligned va 4 = true
  · simp only [h, if_true, Res.bind_eq_ok, true_and]
    constructor
    · rintro ⟨⟨pa, mat⟩, hp, hv⟩
      by_cases hm : mat = 1#2
      · subst hm
        simp only [if_true, Res.bind_eq_ok] at hv
        obtain ⟨u, hu, hv⟩ := hv
        exact ⟨pa, hp, hu, by simpa using hv.symm⟩
      · simp [hm] at hv
    · rintro ⟨pa, hp, hu, rfl⟩
      exact ⟨(pa, 1#2), hp, by simp [hu]⟩
  · simp [h]

/-- What an SC.W that completes has checked and done: stored with LLbit = 1, or done nothing with LLbit = 0 (R292, R294). -/
theorem State.storeConditional_eq_ok {s : State} {va v : Word} {bt : Bool × State} :
    s.storeConditional va v = .ok bt ↔ aligned va 4 = true ∧ ∃ pa, s.translate va .store = .ok (pa, 1#2) ∧
      ((s.llbit = true ∧ pa = s.llAddr ∧ s.plat.allows pa.toNat 4 = .ok () ∧
          bt = (true, { s.writeMem pa.toNat 4 v with llbit := Config.freeScLLbit s.draws, draws := s.draws + 1 })) ∨
        (s.llbit = false ∧ bt = (false, { s with llbit := Config.freeScLLbit s.draws, draws := s.draws + 1 }))) := by
  unfold State.storeConditional
  by_cases h : aligned va 4 = true
  · simp only [h, if_true, Res.bind_eq_ok, true_and]
    constructor
    · rintro ⟨⟨pa, mat⟩, hp, hv⟩
      by_cases hm : mat = 1#2
      · subst hm
        refine ⟨pa, hp, ?_⟩
        cases hl : s.llbit
        · right; simp only [hl, if_true] at hv; exact ⟨rfl, by simpa using hv.symm⟩
        · left
          by_cases ha : pa = s.llAddr
          · simp only [hl, if_true, ha, Res.bind_eq_ok] at hv
            obtain ⟨u, hu, hv⟩ := hv
            exact ⟨rfl, ha, by rw [ha]; exact hu, by rw [ha]; simpa using hv.symm⟩
          · simp [hl, ha] at hv
      · simp [hm] at hv
    · rintro ⟨pa, hp, h⟩
      refine ⟨(pa, 1#2), hp, ?_⟩
      rcases h with ⟨hl, ha, hu, rfl⟩ | ⟨hl, rfl⟩
      · simp only [if_true, hl, ← ha, hu, Res.ok_bind]
      · simp [hl]
  · simp [h]

/-! ## Input events -/

/-- A store by the external agent changes nothing but memory, the record of unseen stores and LLbit (R100, R293). -/
theorem State.externalStore_frame (s : State) (c : PAddr × Byte) :
    { s.externalStore c with mem := s.mem, unseen := s.unseen, llbit := s.llbit } = s := by
  unfold State.externalStore; split <;> rfl

/-- So do all stores of an event together. -/
theorem State.externalStores_frame (l : List (PAddr × Byte)) (s : State) :
    { l.foldl State.externalStore s with mem := s.mem, unseen := s.unseen, llbit := s.llbit } = s := by
  induction l generalizing s with
  | nil => rfl
  | cons c t ih =>
    have h := ih (s.externalStore c)
    have hs := s.externalStore_frame c
    rw [List.foldl_cons]
    generalize t.foldl State.externalStore (s.externalStore c) = x at *
    generalize s.externalStore c = y at *
    rw [← hs, ← h]

/-- A store by the external agent to RAM in the line of LLaddr clears LLbit (R293(b)). -/
theorem State.externalStore_llbit {s : State} {c : PAddr × Byte} (hr : s.plat.kindAt c.1.toNat = some .ram) :
    (s.externalStore c).llbit = (s.llbit && !s.plat.sameLine c.1 s.llAddr) := by
  unfold State.externalStore; rw [if_pos hr]

/-- Counting clocks change nothing but the timer and, of the CSRs, ESTAT (R551). -/
theorem State.timerClocks_frame (s : State) (k : Nat) :
    { s.timerClocks k with timer := s.timer, timerRunning := s.timerRunning, csr := s.csr } = s := by
  unfold State.timerClocks; split <;> (try split) <;> (try dsimp only) <;> (try split) <;> rfl

/-! ## Exceptions and CSRs -/

@[simp] theorem State.trapEntry_pc (s : State) (e : Exc) (va : Word) :
    (s.trapEntry e va).pc = entryAddress (if e = .tlbr then s.csr.tlbrentry else s.csr.eentry) := rfl

/-- What an ERTN that completes has checked and done (R490). -/
theorem State.returnFromException_eq_ok {s t : State} :
    s.returnFromException = .ok t ↔ s.pplv ≠ 1#2 ∧ s.pplv ≠ 2#2 ∧
      t = { s with
        pc := s.csr.era
        llbit := s.llbit && s.csr.klo
        csr := { s.csr with
          crmd := if s.ecode = 0x3F#6 then setField (setField s.csr.crmd 0 (s.csr.prmd.extractLsb' 0 3)) 3 0b10#2
            else setField s.csr.crmd 0 (s.csr.prmd.extractLsb' 0 3)
          klo := false } } := by
  unfold State.returnFromException
  by_cases h : s.pplv = 1#2 ∨ s.pplv = 2#2
  · rcases h with h | h <;> simp [h]
  · simp only [h, if_false, Res.ok.injEq]
    rw [not_or] at h
    simp [h.1, h.2, eq_comm]

/-- A CSR write that happens changes nothing but the CSRs, LLbit and the timer (R464). -/
theorem State.writeCsr_frame {s t : State} {r : CsrName} {v m : Word} (h : s.writeCsr r v m = .ok t) :
    { t with csr := s.csr, llbit := s.llbit, timer := s.timer, timerRunning := s.timerRunning } = s := by
  cases r <;> simp only [State.writeCsr, State.writeTcfg] at h <;> (try split at h) <;> (try split at h) <;>
    first
      | (cases h; rfl)
      | cases h

/-- The CSR instructions change nothing but the CSRs, LLbit and the timer (R464). -/
theorem State.csrWrite_frame {s t : State} {n : CsrNum} {v m : Word} (h : s.csrWrite n v m = .ok t) :
    { t with csr := s.csr, llbit := s.llbit, timer := s.timer, timerRunning := s.timerRunning } = s := by
  unfold State.csrWrite at h
  split at h
  · exact State.writeCsr_frame h
  · cases h; rfl

/-- The entry TLBWR and TLBFILL write, when it may be written (R484). -/
theorem State.checkedTlbEntry_eq_ok {s : State} {t : TlbEntry} :
    s.checkedTlbEntry = .ok t ↔ t = s.newTlbEntry ∧ (t.e = true → s.pageSizeLegal t.ps = true) := by
  unfold State.checkedTlbEntry
  by_cases h : (s.newTlbEntry.e && !s.pageSizeLegal s.newTlbEntry.ps) = true
  · simp only [h, if_true]
    constructor
    · intro h'; cases h'
    · rintro ⟨rfl, h'⟩; simp only [Bool.and_eq_true, Bool.not_eq_true'] at h; simp [h' h.1] at h
  · simp only [h, if_false, Res.ok.injEq, Bool.false_eq_true]
    constructor
    · rintro rfl
      refine ⟨rfl, fun he => ?_⟩
      simpa [he] using h
    · rintro ⟨rfl, -⟩; rfl

/-! ## Floating point -/

/-- An arithmetic floating-point instruction traps when the unit is off (R335). -/
theorem State.fpArith_disabled {s : State} (h : s.fpe = false) (r : Ending) :
    s.fpArith r = .next (s.trapEntry .fpd 0#32) := by simp [State.fpArith, h]
/-- With the unit on it is its commit (R335). -/
theorem State.fpArith_enabled {s : State} (h : s.fpe = true) (r : Ending) : s.fpArith r = r := by simp [State.fpArith, h]

/-- A commit without an enabled exception writes Cause, Flags and the destination (R335). -/
theorem State.fpCommit_quiet {s : State} {e : FpFlags} {te : Bool} {w : State → State}
    (h : s.NoTrap (s.fpExceptions e te)) :
    s.fpCommit e te w =
      .next (w ((s.setFpCause (s.fpExceptions e te)).addFpFlags (s.fpExceptions e te))).advance := by
  have : s.fpExceptions e te &&& s.fpEnables = flagsNone := h
  simp only [State.fpCommit, this, if_true]

/-- A commit with an enabled exception writes Cause and takes FPE (R335). -/
theorem State.fpCommit_trap {s : State} {e : FpFlags} {te : Bool} {w : State → State}
    (h : ¬ s.NoTrap (s.fpExceptions e te)) :
    s.fpCommit e te w = .next ((s.setFpCause (s.fpExceptions e te)).trapEntry .fpe 0#32) := by
  have : ¬ s.fpExceptions e te &&& s.fpEnables = flagsNone := h
  simp only [State.fpCommit, this, if_false]

end Sys2Proof.Machine
end

