-- ==== Sys2Proof/Laws/PerInstr.lean ====
section
/-!
SUPPORT. Statements made per instruction. EncodeRow: an instruction's word has the fixed bits its row of spec/opcode_table.json
gives (spec/30_encoding.md rule R130).
-/
namespace Sys2Proof.Laws.EncodeRow
open Sys2Proof.Encode

/-- The word of the instruction, under the mask of its row, is the row's match value (R130). -/
def Statement (i : Instr) : Prop := encode i &&& rowMask i = rowBits i

theorem addW (rd : GReg) (rj : GReg) (rk : GReg) : Statement (.addW rd rj rk) := (f3R_row _ _ _ _).trans rfl
theorem subW (rd : GReg) (rj : GReg) (rk : GReg) : Statement (.subW rd rj rk) := (f3R_row _ _ _ _).trans rfl
theorem addiW (rd : GReg) (rj : GReg) (si12 : BitVec 12) : Statement (.addiW rd rj si12) := (f2RI12_row _ _ _ _).trans rfl
theorem lu12iW (rd : GReg) (si20 : BitVec 20) : Statement (.lu12iW rd si20) := (f1RI20_row _ _ _).trans rfl
theorem slt (rd : GReg) (rj : GReg) (rk : GReg) : Statement (.slt rd rj rk) := (f3R_row _ _ _ _).trans rfl
theorem sltu (rd : GReg) (rj : GReg) (rk : GReg) : Statement (.sltu rd rj rk) := (f3R_row _ _ _ _).trans rfl
theorem slti (rd : GReg) (rj : GReg) (si12 : BitVec 12) : Statement (.slti rd rj si12) := (f2RI12_row _ _ _ _).trans rfl
theorem sltui (rd : GReg) (rj : GReg) (si12 : BitVec 12) : Statement (.sltui rd rj si12) := (f2RI12_row _ _ _ _).trans rfl
theorem pcaddu12i (rd : GReg) (si20 : BitVec 20) : Statement (.pcaddu12i rd si20) := (f1RI20_row _ _ _).trans rfl
theorem mulW (rd : GReg) (rj : GReg) (rk : GReg) : Statement (.mulW rd rj rk) := (f3R_row _ _ _ _).trans rfl
theorem mulhW (rd : GReg) (rj : GReg) (rk : GReg) : Statement (.mulhW rd rj rk) := (f3R_row _ _ _ _).trans rfl
theorem mulhWu (rd : GReg) (rj : GReg) (rk : GReg) : Statement (.mulhWu rd rj rk) := (f3R_row _ _ _ _).trans rfl
theorem divW (rd : GReg) (rj : GReg) (rk : GReg) : Statement (.divW rd rj rk) := (f3R_row _ _ _ _).trans rfl
theorem divWu (rd : GReg) (rj : GReg) (rk : GReg) : Statement (.divWu rd rj rk) := (f3R_row _ _ _ _).trans rfl
theorem modW (rd : GReg) (rj : GReg) (rk : GReg) : Statement (.modW rd rj rk) := (f3R_row _ _ _ _).trans rfl
theorem modWu (rd : GReg) (rj : GReg) (rk : GReg) : Statement (.modWu rd rj rk) := (f3R_row _ _ _ _).trans rfl
theorem and (rd : GReg) (rj : GReg) (rk : GReg) : Statement (.and rd rj rk) := (f3R_row _ _ _ _).trans rfl
theorem or (rd : GReg) (rj : GReg) (rk : GReg) : Statement (.or rd rj rk) := (f3R_row _ _ _ _).trans rfl
theorem nor (rd : GReg) (rj : GReg) (rk : GReg) : Statement (.nor rd rj rk) := (f3R_row _ _ _ _).trans rfl
theorem xor (rd : GReg) (rj : GReg) (rk : GReg) : Statement (.xor rd rj rk) := (f3R_row _ _ _ _).trans rfl
theorem andi (rd : GReg) (rj : GReg) (ui12 : BitVec 12) : Statement (.andi rd rj ui12) := (f2RI12_row _ _ _ _).trans rfl
theorem ori (rd : GReg) (rj : GReg) (ui12 : BitVec 12) : Statement (.ori rd rj ui12) := (f2RI12_row _ _ _ _).trans rfl
theorem xori (rd : GReg) (rj : GReg) (ui12 : BitVec 12) : Statement (.xori rd rj ui12) := (f2RI12_row _ _ _ _).trans rfl
theorem sllW (rd : GReg) (rj : GReg) (rk : GReg) : Statement (.sllW rd rj rk) := (f3R_row _ _ _ _).trans rfl
theorem srlW (rd : GReg) (rj : GReg) (rk : GReg) : Statement (.srlW rd rj rk) := (f3R_row _ _ _ _).trans rfl
theorem sraW (rd : GReg) (rj : GReg) (rk : GReg) : Statement (.sraW rd rj rk) := (f3R_row _ _ _ _).trans rfl
theorem slliW (rd : GReg) (rj : GReg) (ui5 : BitVec 5) : Statement (.slliW rd rj ui5) := (f3R_row _ _ _ _).trans rfl
theorem srliW (rd : GReg) (rj : GReg) (ui5 : BitVec 5) : Statement (.srliW rd rj ui5) := (f3R_row _ _ _ _).trans rfl
theorem sraiW (rd : GReg) (rj : GReg) (ui5 : BitVec 5) : Statement (.sraiW rd rj ui5) := (f3R_row _ _ _ _).trans rfl
theorem beq (rj : GReg) (rd : GReg) (offs16 : BitVec 16) : Statement (.beq rj rd offs16) := (f2RI16_row _ _ _ _).trans rfl
theorem bne (rj : GReg) (rd : GReg) (offs16 : BitVec 16) : Statement (.bne rj rd offs16) := (f2RI16_row _ _ _ _).trans rfl
theorem blt (rj : GReg) (rd : GReg) (offs16 : BitVec 16) : Statement (.blt rj rd offs16) := (f2RI16_row _ _ _ _).trans rfl
theorem bge (rj : GReg) (rd : GReg) (offs16 : BitVec 16) : Statement (.bge rj rd offs16) := (f2RI16_row _ _ _ _).trans rfl
theorem bltu (rj : GReg) (rd : GReg) (offs16 : BitVec 16) : Statement (.bltu rj rd offs16) := (f2RI16_row _ _ _ _).trans rfl
theorem bgeu (rj : GReg) (rd : GReg) (offs16 : BitVec 16) : Statement (.bgeu rj rd offs16) := (f2RI16_row _ _ _ _).trans rfl
theorem b (offs26 : BitVec 26) : Statement (.b offs26) := (fI26_row _ _).trans rfl
theorem bl (offs26 : BitVec 26) : Statement (.bl offs26) := (fI26_row _ _).trans rfl
theorem jirl (rd : GReg) (rj : GReg) (offs16 : BitVec 16) : Statement (.jirl rd rj offs16) := (f2RI16_row _ _ _ _).trans rfl
theorem ldB (rd : GReg) (rj : GReg) (si12 : BitVec 12) : Statement (.ldB rd rj si12) := (f2RI12_row _ _ _ _).trans rfl
theorem ldH (rd : GReg) (rj : GReg) (si12 : BitVec 12) : Statement (.ldH rd rj si12) := (f2RI12_row _ _ _ _).trans rfl
theorem ldW (rd : GReg) (rj : GReg) (si12 : BitVec 12) : Statement (.ldW rd rj si12) := (f2RI12_row _ _ _ _).trans rfl
theorem ldBu (rd : GReg) (rj : GReg) (si12 : BitVec 12) : Statement (.ldBu rd rj si12) := (f2RI12_row _ _ _ _).trans rfl
theorem ldHu (rd : GReg) (rj : GReg) (si12 : BitVec 12) : Statement (.ldHu rd rj si12) := (f2RI12_row _ _ _ _).trans rfl
theorem stB (rd : GReg) (rj : GReg) (si12 : BitVec 12) : Statement (.stB rd rj si12) := (f2RI12_row _ _ _ _).trans rfl
theorem stH (rd : GReg) (rj : GReg) (si12 : BitVec 12) : Statement (.stH rd rj si12) := (f2RI12_row _ _ _ _).trans rfl
theorem stW (rd : GReg) (rj : GReg) (si12 : BitVec 12) : Statement (.stW rd rj si12) := (f2RI12_row _ _ _ _).trans rfl
theorem preld (hint : BitVec 5) (rj : GReg) (si12 : BitVec 12) : Statement (.preld hint rj si12) := (f2RI12_row _ _ _ _).trans rfl
theorem llW (rd : GReg) (rj : GReg) (si14 : BitVec 14) : Statement (.llW rd rj si14) := (f2RI14_row _ _ _ _).trans rfl
theorem scW (rd : GReg) (rj : GReg) (si14 : BitVec 14) : Statement (.scW rd rj si14) := (f2RI14_row _ _ _ _).trans rfl
theorem dbar (hint : BitVec 15) : Statement (.dbar hint) := (fI15_row _ _).trans rfl
theorem ibar (hint : BitVec 15) : Statement (.ibar hint) := (fI15_row _ _).trans rfl
theorem syscall (code : BitVec 15) : Statement (.syscall code) := (fI15_row _ _).trans rfl
theorem brk (code : BitVec 15) : Statement (.brk code) := (fI15_row _ _).trans rfl
theorem rdcntvlW (rd : GReg) : Statement (.rdcntvlW rd) := (f2R_row_rj _ _).trans rfl
theorem rdcntvhW (rd : GReg) : Statement (.rdcntvhW rd) := (f2R_row_rj _ _).trans rfl
theorem rdcntid (rj : GReg) : Statement (.rdcntid rj) := (f2R_row_rd _ _).trans rfl
theorem faddS (fd : FReg) (fj : FReg) (fk : FReg) : Statement (.faddS fd fj fk) := (f3R_row _ _ _ _).trans rfl
theorem faddD (fd : FReg) (fj : FReg) (fk : FReg) : Statement (.faddD fd fj fk) := (f3R_row _ _ _ _).trans rfl
theorem fsubS (fd : FReg) (fj : FReg) (fk : FReg) : Statement (.fsubS fd fj fk) := (f3R_row _ _ _ _).trans rfl
theorem fsubD (fd : FReg) (fj : FReg) (fk : FReg) : Statement (.fsubD fd fj fk) := (f3R_row _ _ _ _).trans rfl
theorem fmulS (fd : FReg) (fj : FReg) (fk : FReg) : Statement (.fmulS fd fj fk) := (f3R_row _ _ _ _).trans rfl
theorem fmulD (fd : FReg) (fj : FReg) (fk : FReg) : Statement (.fmulD fd fj fk) := (f3R_row _ _ _ _).trans rfl
theorem fdivS (fd : FReg) (fj : FReg) (fk : FReg) : Statement (.fdivS fd fj fk) := (f3R_row _ _ _ _).trans rfl
theorem fdivD (fd : FReg) (fj : FReg) (fk : FReg) : Statement (.fdivD fd fj fk) := (f3R_row _ _ _ _).trans rfl
theorem fmaddS (fd : FReg) (fj : FReg) (fk : FReg) (fa : FReg) : Statement (.fmaddS fd fj fk fa) := (f4R_row _ _ _ _ _).trans rfl
theorem fmaddD (fd : FReg) (fj : FReg) (fk : FReg) (fa : FReg) : Statement (.fmaddD fd fj fk fa) := (f4R_row _ _ _ _ _).trans rfl
theorem fmsubS (fd : FReg) (fj : FReg) (fk : FReg) (fa : FReg) : Statement (.fmsubS fd fj fk fa) := (f4R_row _ _ _ _ _).trans rfl
theorem fmsubD (fd : FReg) (fj : FReg) (fk : FReg) (fa : FReg) : Statement (.fmsubD fd fj fk fa) := (f4R_row _ _ _ _ _).trans rfl
theorem fnmaddS (fd : FReg) (fj : FReg) (fk : FReg) (fa : FReg) : Statement (.fnmaddS fd fj fk fa) := (f4R_row _ _ _ _ _).trans rfl
theorem fnmaddD (fd : FReg) (fj : FReg) (fk : FReg) (fa : FReg) : Statement (.fnmaddD fd fj fk fa) := (f4R_row _ _ _ _ _).trans rfl
theorem fnmsubS (fd : FReg) (fj : FReg) (fk : FReg) (fa : FReg) : Statement (.fnmsubS fd fj fk fa) := (f4R_row _ _ _ _ _).trans rfl
theorem fnmsubD (fd : FReg) (fj : FReg) (fk : FReg) (fa : FReg) : Statement (.fnmsubD fd fj fk fa) := (f4R_row _ _ _ _ _).trans rfl
theorem fmaxS (fd : FReg) (fj : FReg) (fk : FReg) : Statement (.fmaxS fd fj fk) := (f3R_row _ _ _ _).trans rfl
theorem fmaxD (fd : FReg) (fj : FReg) (fk : FReg) : Statement (.fmaxD fd fj fk) := (f3R_row _ _ _ _).trans rfl
theorem fminS (fd : FReg) (fj : FReg) (fk : FReg) : Statement (.fminS fd fj fk) := (f3R_row _ _ _ _).trans rfl
theorem fminD (fd : FReg) (fj : FReg) (fk : FReg) : Statement (.fminD fd fj fk) := (f3R_row _ _ _ _).trans rfl
theorem fmaxaS (fd : FReg) (fj : FReg) (fk : FReg) : Statement (.fmaxaS fd fj fk) := (f3R_row _ _ _ _).trans rfl
theorem fmaxaD (fd : FReg) (fj : FReg) (fk : FReg) : Statement (.fmaxaD fd fj fk) := (f3R_row _ _ _ _).trans rfl
theorem fminaS (fd : FReg) (fj : FReg) (fk : FReg) : Statement (.fminaS fd fj fk) := (f3R_row _ _ _ _).trans rfl
theorem fminaD (fd : FReg) (fj : FReg) (fk : FReg) : Statement (.fminaD fd fj fk) := (f3R_row _ _ _ _).trans rfl
theorem fabsS (fd : FReg) (fj : FReg) : Statement (.fabsS fd fj) := (f2R_row _ _ _).trans rfl
theorem fabsD (fd : FReg) (fj : FReg) : Statement (.fabsD fd fj) := (f2R_row _ _ _).trans rfl
theorem fnegS (fd : FReg) (fj : FReg) : Statement (.fnegS fd fj) := (f2R_row _ _ _).trans rfl
theorem fnegD (fd : FReg) (fj : FReg) : Statement (.fnegD fd fj) := (f2R_row _ _ _).trans rfl
theorem fsqrtS (fd : FReg) (fj : FReg) : Statement (.fsqrtS fd fj) := (f2R_row _ _ _).trans rfl
theorem fsqrtD (fd : FReg) (fj : FReg) : Statement (.fsqrtD fd fj) := (f2R_row _ _ _).trans rfl
theorem frecipS (fd : FReg) (fj : FReg) : Statement (.frecipS fd fj) := (f2R_row _ _ _).trans rfl
theorem frecipD (fd : FReg) (fj : FReg) : Statement (.frecipD fd fj) := (f2R_row _ _ _).trans rfl
theorem frsqrtS (fd : FReg) (fj : FReg) : Statement (.frsqrtS fd fj) := (f2R_row _ _ _).trans rfl
theorem frsqrtD (fd : FReg) (fj : FReg) : Statement (.frsqrtD fd fj) := (f2R_row _ _ _).trans rfl
theorem fcopysignS (fd : FReg) (fj : FReg) (fk : FReg) : Statement (.fcopysignS fd fj fk) := (f3R_row _ _ _ _).trans rfl
theorem fcopysignD (fd : FReg) (fj : FReg) (fk : FReg) : Statement (.fcopysignD fd fj fk) := (f3R_row _ _ _ _).trans rfl
theorem fclassS (fd : FReg) (fj : FReg) : Statement (.fclassS fd fj) := (f2R_row _ _ _).trans rfl
theorem fclassD (fd : FReg) (fj : FReg) : Statement (.fclassD fd fj) := (f2R_row _ _ _).trans rfl
theorem fcmpCafS (cd : CReg) (fj : FReg) (fk : FReg) : Statement (.fcmpCafS cd fj fk) := (fFcmp_row _ _ _ _ _).trans rfl
theorem fcmpSafS (cd : CReg) (fj : FReg) (fk : FReg) : Statement (.fcmpSafS cd fj fk) := (fFcmp_row _ _ _ _ _).trans rfl
theorem fcmpCltS (cd : CReg) (fj : FReg) (fk : FReg) : Statement (.fcmpCltS cd fj fk) := (fFcmp_row _ _ _ _ _).trans rfl
theorem fcmpSltS (cd : CReg) (fj : FReg) (fk : FReg) : Statement (.fcmpSltS cd fj fk) := (fFcmp_row _ _ _ _ _).trans rfl
theorem fcmpCeqS (cd : CReg) (fj : FReg) (fk : FReg) : Statement (.fcmpCeqS cd fj fk) := (fFcmp_row _ _ _ _ _).trans rfl
theorem fcmpSeqS (cd : CReg) (fj : FReg) (fk : FReg) : Statement (.fcmpSeqS cd fj fk) := (fFcmp_row _ _ _ _ _).trans rfl
theorem fcmpCleS (cd : CReg) (fj : FReg) (fk : FReg) : Statement (.fcmpCleS cd fj fk) := (fFcmp_row _ _ _ _ _).trans rfl
theorem fcmpSleS (cd : CReg) (fj : FReg) (fk : FReg) : Statement (.fcmpSleS cd fj fk) := (fFcmp_row _ _ _ _ _).trans rfl
theorem fcmpCunS (cd : CReg) (fj : FReg) (fk : FReg) : Statement (.fcmpCunS cd fj fk) := (fFcmp_row _ _ _ _ _).trans rfl
theorem fcmpSunS (cd : CReg) (fj : FReg) (fk : FReg) : Statement (.fcmpSunS cd fj fk) := (fFcmp_row _ _ _ _ _).trans rfl
theorem fcmpCultS (cd : CReg) (fj : FReg) (fk : FReg) : Statement (.fcmpCultS cd fj fk) := (fFcmp_row _ _ _ _ _).trans rfl
theorem fcmpSultS (cd : CReg) (fj : FReg) (fk : FReg) : Statement (.fcmpSultS cd fj fk) := (fFcmp_row _ _ _ _ _).trans rfl
theorem fcmpCueqS (cd : CReg) (fj : FReg) (fk : FReg) : Statement (.fcmpCueqS cd fj fk) := (fFcmp_row _ _ _ _ _).trans rfl
theorem fcmpSueqS (cd : CReg) (fj : FReg) (fk : FReg) : Statement (.fcmpSueqS cd fj fk) := (fFcmp_row _ _ _ _ _).trans rfl
theorem fcmpCuleS (cd : CReg) (fj : FReg) (fk : FReg) : Statement (.fcmpCuleS cd fj fk) := (fFcmp_row _ _ _ _ _).trans rfl
theorem fcmpSuleS (cd : CReg) (fj : FReg) (fk : FReg) : Statement (.fcmpSuleS cd fj fk) := (fFcmp_row _ _ _ _ _).trans rfl
theorem fcmpCneS (cd : CReg) (fj : FReg) (fk : FReg) : Statement (.fcmpCneS cd fj fk) := (fFcmp_row _ _ _ _ _).trans rfl
theorem fcmpSneS (cd : CReg) (fj : FReg) (fk : FReg) : Statement (.fcmpSneS cd fj fk) := (fFcmp_row _ _ _ _ _).trans rfl
theorem fcmpCorS (cd : CReg) (fj : FReg) (fk : FReg) : Statement (.fcmpCorS cd fj fk) := (fFcmp_row _ _ _ _ _).trans rfl
theorem fcmpSorS (cd : CReg) (fj : FReg) (fk : FReg) : Statement (.fcmpSorS cd fj fk) := (fFcmp_row _ _ _ _ _).trans rfl
theorem fcmpCuneS (cd : CReg) (fj : FReg) (fk : FReg) : Statement (.fcmpCuneS cd fj fk) := (fFcmp_row _ _ _ _ _).trans rfl
theorem fcmpSuneS (cd : CReg) (fj : FReg) (fk : FReg) : Statement (.fcmpSuneS cd fj fk) := (fFcmp_row _ _ _ _ _).trans rfl
theorem fcmpCafD (cd : CReg) (fj : FReg) (fk : FReg) : Statement (.fcmpCafD cd fj fk) := (fFcmp_row _ _ _ _ _).trans rfl
theorem fcmpSafD (cd : CReg) (fj : FReg) (fk : FReg) : Statement (.fcmpSafD cd fj fk) := (fFcmp_row _ _ _ _ _).trans rfl
theorem fcmpCltD (cd : CReg) (fj : FReg) (fk : FReg) : Statement (.fcmpCltD cd fj fk) := (fFcmp_row _ _ _ _ _).trans rfl
theorem fcmpSltD (cd : CReg) (fj : FReg) (fk : FReg) : Statement (.fcmpSltD cd fj fk) := (fFcmp_row _ _ _ _ _).trans rfl
theorem fcmpCeqD (cd : CReg) (fj : FReg) (fk : FReg) : Statement (.fcmpCeqD cd fj fk) := (fFcmp_row _ _ _ _ _).trans rfl
theorem fcmpSeqD (cd : CReg) (fj : FReg) (fk : FReg) : Statement (.fcmpSeqD cd fj fk) := (fFcmp_row _ _ _ _ _).trans rfl
theorem fcmpCleD (cd : CReg) (fj : FReg) (fk : FReg) : Statement (.fcmpCleD cd fj fk) := (fFcmp_row _ _ _ _ _).trans rfl
theorem fcmpSleD (cd : CReg) (fj : FReg) (fk : FReg) : Statement (.fcmpSleD cd fj fk) := (fFcmp_row _ _ _ _ _).trans rfl
theorem fcmpCunD (cd : CReg) (fj : FReg) (fk : FReg) : Statement (.fcmpCunD cd fj fk) := (fFcmp_row _ _ _ _ _).trans rfl
theorem fcmpSunD (cd : CReg) (fj : FReg) (fk : FReg) : Statement (.fcmpSunD cd fj fk) := (fFcmp_row _ _ _ _ _).trans rfl
theorem fcmpCultD (cd : CReg) (fj : FReg) (fk : FReg) : Statement (.fcmpCultD cd fj fk) := (fFcmp_row _ _ _ _ _).trans rfl
theorem fcmpSultD (cd : CReg) (fj : FReg) (fk : FReg) : Statement (.fcmpSultD cd fj fk) := (fFcmp_row _ _ _ _ _).trans rfl
theorem fcmpCueqD (cd : CReg) (fj : FReg) (fk : FReg) : Statement (.fcmpCueqD cd fj fk) := (fFcmp_row _ _ _ _ _).trans rfl
theorem fcmpSueqD (cd : CReg) (fj : FReg) (fk : FReg) : Statement (.fcmpSueqD cd fj fk) := (fFcmp_row _ _ _ _ _).trans rfl
theorem fcmpCuleD (cd : CReg) (fj : FReg) (fk : FReg) : Statement (.fcmpCuleD cd fj fk) := (fFcmp_row _ _ _ _ _).trans rfl
theorem fcmpSuleD (cd : CReg) (fj : FReg) (fk : FReg) : Statement (.fcmpSuleD cd fj fk) := (fFcmp_row _ _ _ _ _).trans rfl
theorem fcmpCneD (cd : CReg) (fj : FReg) (fk : FReg) : Statement (.fcmpCneD cd fj fk) := (fFcmp_row _ _ _ _ _).trans rfl
theorem fcmpSneD (cd : CReg) (fj : FReg) (fk : FReg) : Statement (.fcmpSneD cd fj fk) := (fFcmp_row _ _ _ _ _).trans rfl
theorem fcmpCorD (cd : CReg) (fj : FReg) (fk : FReg) : Statement (.fcmpCorD cd fj fk) := (fFcmp_row _ _ _ _ _).trans rfl
theorem fcmpSorD (cd : CReg) (fj : FReg) (fk : FReg) : Statement (.fcmpSorD cd fj fk) := (fFcmp_row _ _ _ _ _).trans rfl
theorem fcmpCuneD (cd : CReg) (fj : FReg) (fk : FReg) : Statement (.fcmpCuneD cd fj fk) := (fFcmp_row _ _ _ _ _).trans rfl
theorem fcmpSuneD (cd : CReg) (fj : FReg) (fk : FReg) : Statement (.fcmpSuneD cd fj fk) := (fFcmp_row _ _ _ _ _).trans rfl
theorem fcvtSD (fd : FReg) (fj : FReg) : Statement (.fcvtSD fd fj) := (f2R_row _ _ _).trans rfl
theorem fcvtDS (fd : FReg) (fj : FReg) : Statement (.fcvtDS fd fj) := (f2R_row _ _ _).trans rfl
theorem ffintSW (fd : FReg) (fj : FReg) : Statement (.ffintSW fd fj) := (f2R_row _ _ _).trans rfl
theorem ffintDW (fd : FReg) (fj : FReg) : Statement (.ffintDW fd fj) := (f2R_row _ _ _).trans rfl
theorem ftintWS (fd : FReg) (fj : FReg) : Statement (.ftintWS fd fj) := (f2R_row _ _ _).trans rfl
theorem ftintWD (fd : FReg) (fj : FReg) : Statement (.ftintWD fd fj) := (f2R_row _ _ _).trans rfl
theorem ftintrmWS (fd : FReg) (fj : FReg) : Statement (.ftintrmWS fd fj) := (f2R_row _ _ _).trans rfl
theorem ftintrmWD (fd : FReg) (fj : FReg) : Statement (.ftintrmWD fd fj) := (f2R_row _ _ _).trans rfl
theorem ftintrpWS (fd : FReg) (fj : FReg) : Statement (.ftintrpWS fd fj) := (f2R_row _ _ _).trans rfl
theorem ftintrpWD (fd : FReg) (fj : FReg) : Statement (.ftintrpWD fd fj) := (f2R_row _ _ _).trans rfl
theorem ftintrzWS (fd : FReg) (fj : FReg) : Statement (.ftintrzWS fd fj) := (f2R_row _ _ _).trans rfl
theorem ftintrzWD (fd : FReg) (fj : FReg) : Statement (.ftintrzWD fd fj) := (f2R_row _ _ _).trans rfl
theorem ftintrneWS (fd : FReg) (fj : FReg) : Statement (.ftintrneWS fd fj) := (f2R_row _ _ _).trans rfl
theorem ftintrneWD (fd : FReg) (fj : FReg) : Statement (.ftintrneWD fd fj) := (f2R_row _ _ _).trans rfl
theorem fmovS (fd : FReg) (fj : FReg) : Statement (.fmovS fd fj) := (f2R_row _ _ _).trans rfl
theorem fmovD (fd : FReg) (fj : FReg) : Statement (.fmovD fd fj) := (f2R_row _ _ _).trans rfl
theorem fsel (fd : FReg) (fj : FReg) (fk : FReg) (ca : CReg) : Statement (.fsel fd fj fk ca) := (fFsel_row _ _ _ _ _).trans rfl
theorem movgr2frW (fd : FReg) (rj : GReg) : Statement (.movgr2frW fd rj) := (f2R_row _ _ _).trans rfl
theorem movgr2frhW (fd : FReg) (rj : GReg) : Statement (.movgr2frhW fd rj) := (f2R_row _ _ _).trans rfl
theorem movfr2grS (rd : GReg) (fj : FReg) : Statement (.movfr2grS rd fj) := (f2R_row _ _ _).trans rfl
theorem movfrh2grS (rd : GReg) (fj : FReg) : Statement (.movfrh2grS rd fj) := (f2R_row _ _ _).trans rfl
theorem movgr2fcsr (fcsr : BitVec 5) (rj : GReg) : Statement (.movgr2fcsr fcsr rj) := (f2R_row _ _ _).trans rfl
theorem movfcsr2gr (rd : GReg) (fcsr : BitVec 5) : Statement (.movfcsr2gr rd fcsr) := (f2R_row _ _ _).trans rfl
theorem movfr2cf (cd : CReg) (fj : FReg) : Statement (.movfr2cf cd fj) := (f2Rcd_row _ _ _).trans rfl
theorem movcf2fr (fd : FReg) (cj : CReg) : Statement (.movcf2fr fd cj) := (f2Rcj_row _ _ _).trans rfl
theorem movgr2cf (cd : CReg) (rj : GReg) : Statement (.movgr2cf cd rj) := (f2Rcd_row _ _ _).trans rfl
theorem movcf2gr (rd : GReg) (cj : CReg) : Statement (.movcf2gr rd cj) := (f2Rcj_row _ _ _).trans rfl
theorem bceqz (cj : CReg) (offs21 : BitVec 21) : Statement (.bceqz cj offs21) := (f1RI21_row _ _ _ _).trans rfl
theorem bcnez (cj : CReg) (offs21 : BitVec 21) : Statement (.bcnez cj offs21) := (f1RI21_row _ _ _ _).trans rfl
theorem fldS (fd : FReg) (rj : GReg) (si12 : BitVec 12) : Statement (.fldS fd rj si12) := (f2RI12_row _ _ _ _).trans rfl
theorem fldD (fd : FReg) (rj : GReg) (si12 : BitVec 12) : Statement (.fldD fd rj si12) := (f2RI12_row _ _ _ _).trans rfl
theorem fstS (fd : FReg) (rj : GReg) (si12 : BitVec 12) : Statement (.fstS fd rj si12) := (f2RI12_row _ _ _ _).trans rfl
theorem fstD (fd : FReg) (rj : GReg) (si12 : BitVec 12) : Statement (.fstD fd rj si12) := (f2RI12_row _ _ _ _).trans rfl
theorem csrrd (rd : GReg) (csr : CsrNum) : Statement (.csrrd rd csr) := (f2RI14_row_rj _ _ _ _).trans rfl
theorem csrwr (rd : GReg) (csr : CsrNum) : Statement (.csrwr rd csr) := (f2RI14_row_rj _ _ _ _).trans rfl
theorem csrxchg (rd : GReg) (rj : GReg) (csr : CsrNum) : Statement (.csrxchg rd rj csr) := (f2RI14_row _ _ _ _).trans rfl
theorem cacop (code : BitVec 5) (rj : GReg) (si12 : BitVec 12) : Statement (.cacop code rj si12) := (f2RI12_row _ _ _ _).trans rfl
theorem tlbsrch : Statement .tlbsrch := by unfold Statement; decide
theorem tlbrd : Statement .tlbrd := by unfold Statement; decide
theorem tlbwr : Statement .tlbwr := by unfold Statement; decide
theorem tlbfill : Statement .tlbfill := by unfold Statement; decide
theorem invtlb (op : BitVec 5) (rj : GReg) (rk : GReg) : Statement (.invtlb op rj rk) := (f3R_row _ _ _ _).trans rfl
theorem ertn : Statement .ertn := by unfold Statement; decide
theorem idle (level : BitVec 15) : Statement (.idle level) := (fI15_row _ _).trans rfl

end Sys2Proof.Laws.EncodeRow
end

