-- ==== Sys2Proof/Tests/Slice0.lean ====
section
/-!
SUPPORT. The model's own tests: ill-formed terms refused, words of the spec decoded, the test vectors V<n> of
spec/95_test_vectors.md run, and for every obligation with hypotheses a named witness that meets them. Expected results are
the spec's.
-/
namespace Sys2Proof.Tests
open Sys2Proof.Machine

-- One theorem after another: checked side by side they would start more threads than the memory limit has room for.
set_option Elab.async false

/-- The start state of the vectors: reset, floating point on, EENTRY 0x1C000100. -/
def start : State := { State.reset with csr := { State.reset.csr with euen := 1#32, eentry := 0x1C000100#32 } }

/-- A state with these general registers. -/
def regs (l : List (GReg × Word)) (s : State) : State := l.foldl (fun s p => s.setReg p.1 p.2) s

/-- A state with these floating-point registers. -/
def fregs (l : List (FReg × DWord)) (s : State) : State := l.foldl (fun s p => s.setFreg p.1 p.2) s

/-- A state with another CRMD. -/
def mode (crmd : Word) (s : State) : State := { s with csr := { s.csr with crmd := crmd } }

/-- The bytes of section 2.4 at 0x1C001000. -/
def bytes : List Host.Cell :=
  [(0x1C001000, 0x80#8), (0x1C001001, 0xFF#8), (0x1C001002, 0x7F#8), (0x1C001004, 0x34#8), (0x1C001005, 0x82#8),
   (0x1C001006, 0xCD#8), (0x1C001007, 0xAB#8)]

/-- The start state with those bytes, x[4] = 0x12345678 and x[5] = `base`. -/
def atBytes (base : Word) : State := { regs [(4#5, 0x12345678#32), (5#5, base)] start with mem := bytes }

/-- Does running the word end in a next state of which `p` holds? -/
def vec (w : Word) (s : State) (p : State → Bool) : Bool :=
  match s.runWord w with
  | .next t => p t
  | _ => false

/-- Is running the word refused, by this name? -/
def refuses (w : Word) (s : State) (r : Refusal) : Bool :=
  match s.runWord w with
  | .refused q => q == r
  | _ => false

/-! ## Well-formedness and decoding -/

/-- CSRXCHG has no mask register r0 or r1, and RDCNTID has no destination r0 (R125); the others are well-formed. -/
theorem test_wellFormed :
    Instr.wellFormed (.csrxchg 4#5 0#5 0#14) = false ∧ Instr.wellFormed (.csrxchg 4#5 1#5 0#14) = false ∧
    Instr.wellFormed (.csrxchg 4#5 2#5 0#14) = true ∧ Instr.wellFormed (.rdcntid 0#5) = false ∧
    Instr.wellFormed (.rdcntid 1#5) = true := by decide

/-- For every row of the opcode table a word with its opcode bits and a value in each field, placed as the table's fields say,
decodes to that instruction with those operands: thirteen families. -/
theorem test_decode_integer_arithmetic : ∀ p ∈ ([
    (0x00107623#32, .addW 0x3#5 0x11#5 0x1d#5),
    (0x00117623#32, .subW 0x3#5 0x11#5 0x1d#5),
    (0x02A97223#32, .addiW 0x3#5 0x11#5 0xa5c#12),
    (0x154B87C3#32, .lu12iW 0x3#5 0xa5c3e#20),
    (0x00127623#32, .slt 0x3#5 0x11#5 0x1d#5),
    (0x0012F623#32, .sltu 0x3#5 0x11#5 0x1d#5),
    (0x02297223#32, .slti 0x3#5 0x11#5 0xa5c#12),
    (0x02697223#32, .sltui 0x3#5 0x11#5 0xa5c#12),
    (0x1D4B87C3#32, .pcaddu12i 0x3#5 0xa5c3e#20),
    (0x001C7623#32, .mulW 0x3#5 0x11#5 0x1d#5),
    (0x001CF623#32, .mulhW 0x3#5 0x11#5 0x1d#5),
    (0x001D7623#32, .mulhWu 0x3#5 0x11#5 0x1d#5),
    (0x00207623#32, .divW 0x3#5 0x11#5 0x1d#5),
    (0x00217623#32, .divWu 0x3#5 0x11#5 0x1d#5),
    (0x0020F623#32, .modW 0x3#5 0x11#5 0x1d#5),
    (0x0021F623#32, .modWu 0x3#5 0x11#5 0x1d#5)]
    : List (Word × Instr)), decodeWord p.1 = .instr p.2 := by decide +kernel

theorem test_decode_logic_and_shift : ∀ p ∈ ([
    (0x0014F623#32, .and 0x3#5 0x11#5 0x1d#5),
    (0x00157623#32, .or 0x3#5 0x11#5 0x1d#5),
    (0x00147623#32, .nor 0x3#5 0x11#5 0x1d#5),
    (0x0015F623#32, .xor 0x3#5 0x11#5 0x1d#5),
    (0x03697223#32, .andi 0x3#5 0x11#5 0xa5c#12),
    (0x03A97223#32, .ori 0x3#5 0x11#5 0xa5c#12),
    (0x03E97223#32, .xori 0x3#5 0x11#5 0xa5c#12),
    (0x00177623#32, .sllW 0x3#5 0x11#5 0x1d#5),
    (0x0017F623#32, .srlW 0x3#5 0x11#5 0x1d#5),
    (0x00187623#32, .sraW 0x3#5 0x11#5 0x1d#5),
    (0x0040D623#32, .slliW 0x3#5 0x11#5 0x15#5),
    (0x0044D623#32, .srliW 0x3#5 0x11#5 0x15#5),
    (0x0048D623#32, .sraiW 0x3#5 0x11#5 0x15#5)]
    : List (Word × Instr)), decodeWord p.1 = .instr p.2 := by decide +kernel

theorem test_decode_branch : ∀ p ∈ ([
    (0x5A970E23#32, .beq 0x11#5 0x3#5 0xa5c3#16),
    (0x5E970E23#32, .bne 0x11#5 0x3#5 0xa5c3#16),
    (0x62970E23#32, .blt 0x11#5 0x3#5 0xa5c3#16),
    (0x66970E23#32, .bge 0x11#5 0x3#5 0xa5c3#16),
    (0x6A970E23#32, .bltu 0x11#5 0x3#5 0xa5c3#16),
    (0x6E970E23#32, .bgeu 0x11#5 0x3#5 0xa5c3#16),
    (0x530F86A5#32, .b 0x2a5c3e1#26),
    (0x570F86A5#32, .bl 0x2a5c3e1#26),
    (0x4E970E23#32, .jirl 0x3#5 0x11#5 0xa5c3#16)]
    : List (Word × Instr)), decodeWord p.1 = .instr p.2 := by decide +kernel

theorem test_decode_load_store : ∀ p ∈ ([
    (0x28297223#32, .ldB 0x3#5 0x11#5 0xa5c#12),
    (0x28697223#32, .ldH 0x3#5 0x11#5 0xa5c#12),
    (0x28A97223#32, .ldW 0x3#5 0x11#5 0xa5c#12),
    (0x2A297223#32, .ldBu 0x3#5 0x11#5 0xa5c#12),
    (0x2A697223#32, .ldHu 0x3#5 0x11#5 0xa5c#12),
    (0x29297223#32, .stB 0x3#5 0x11#5 0xa5c#12),
    (0x29697223#32, .stH 0x3#5 0x11#5 0xa5c#12),
    (0x29A97223#32, .stW 0x3#5 0x11#5 0xa5c#12),
    (0x2AE97235#32, .preld 0x15#5 0x11#5 0xa5c#12)]
    : List (Word × Instr)), decodeWord p.1 = .instr p.2 := by decide +kernel

theorem test_decode_atomic : ∀ p ∈ ([
    (0x20A97223#32, .llW 0x3#5 0x11#5 0x2a5c#14),
    (0x21A97223#32, .scW 0x3#5 0x11#5 0x2a5c#14),
    (0x38725A5C#32, .dbar 0x5a5c#15),
    (0x3872DA5C#32, .ibar 0x5a5c#15)]
    : List (Word × Instr)), decodeWord p.1 = .instr p.2 := by decide +kernel

theorem test_decode_misc : ∀ p ∈ ([
    (0x002B5A5C#32, .syscall 0x5a5c#15),
    (0x002A5A5C#32, .brk 0x5a5c#15),
    (0x00006003#32, .rdcntvlW 0x3#5),
    (0x00006403#32, .rdcntvhW 0x3#5),
    (0x00006220#32, .rdcntid 0x11#5)]
    : List (Word × Instr)), decodeWord p.1 = .instr p.2 := by decide +kernel

theorem test_decode_fp_arithmetic : ∀ p ∈ ([
    (0x0100F623#32, .faddS 0x3#5 0x11#5 0x1d#5),
    (0x01017623#32, .faddD 0x3#5 0x11#5 0x1d#5),
    (0x0102F623#32, .fsubS 0x3#5 0x11#5 0x1d#5),
    (0x01037623#32, .fsubD 0x3#5 0x11#5 0x1d#5),
    (0x0104F623#32, .fmulS 0x3#5 0x11#5 0x1d#5),
    (0x01057623#32, .fmulD 0x3#5 0x11#5 0x1d#5),
    (0x0106F623#32, .fdivS 0x3#5 0x11#5 0x1d#5),
    (0x01077623#32, .fdivD 0x3#5 0x11#5 0x1d#5),
    (0x0815F623#32, .fmaddS 0x3#5 0x11#5 0x1d#5 0xb#5),
    (0x0825F623#32, .fmaddD 0x3#5 0x11#5 0x1d#5 0xb#5),
    (0x0855F623#32, .fmsubS 0x3#5 0x11#5 0x1d#5 0xb#5),
    (0x0865F623#32, .fmsubD 0x3#5 0x11#5 0x1d#5 0xb#5),
    (0x0895F623#32, .fnmaddS 0x3#5 0x11#5 0x1d#5 0xb#5),
    (0x08A5F623#32, .fnmaddD 0x3#5 0x11#5 0x1d#5 0xb#5),
    (0x08D5F623#32, .fnmsubS 0x3#5 0x11#5 0x1d#5 0xb#5),
    (0x08E5F623#32, .fnmsubD 0x3#5 0x11#5 0x1d#5 0xb#5)]
    : List (Word × Instr)), decodeWord p.1 = .instr p.2 := by decide +kernel

theorem test_decode_fp_arithmetic_2 : ∀ p ∈ ([
    (0x0108F623#32, .fmaxS 0x3#5 0x11#5 0x1d#5),
    (0x01097623#32, .fmaxD 0x3#5 0x11#5 0x1d#5),
    (0x010AF623#32, .fminS 0x3#5 0x11#5 0x1d#5),
    (0x010B7623#32, .fminD 0x3#5 0x11#5 0x1d#5),
    (0x010CF623#32, .fmaxaS 0x3#5 0x11#5 0x1d#5),
    (0x010D7623#32, .fmaxaD 0x3#5 0x11#5 0x1d#5),
    (0x010EF623#32, .fminaS 0x3#5 0x11#5 0x1d#5),
    (0x010F7623#32, .fminaD 0x3#5 0x11#5 0x1d#5),
    (0x01140623#32, .fabsS 0x3#5 0x11#5),
    (0x01140A23#32, .fabsD 0x3#5 0x11#5),
    (0x01141623#32, .fnegS 0x3#5 0x11#5),
    (0x01141A23#32, .fnegD 0x3#5 0x11#5),
    (0x01144623#32, .fsqrtS 0x3#5 0x11#5),
    (0x01144A23#32, .fsqrtD 0x3#5 0x11#5),
    (0x01145623#32, .frecipS 0x3#5 0x11#5),
    (0x01145A23#32, .frecipD 0x3#5 0x11#5),
    (0x01146623#32, .frsqrtS 0x3#5 0x11#5),
    (0x01146A23#32, .frsqrtD 0x3#5 0x11#5),
    (0x0112F623#32, .fcopysignS 0x3#5 0x11#5 0x1d#5),
    (0x01137623#32, .fcopysignD 0x3#5 0x11#5 0x1d#5),
    (0x01143623#32, .fclassS 0x3#5 0x11#5),
    (0x01143A23#32, .fclassD 0x3#5 0x11#5)]
    : List (Word × Instr)), decodeWord p.1 = .instr p.2 := by decide +kernel

theorem test_decode_fcmp_s : ∀ p ∈ ([
    (0x0C107625#32, .fcmpCafS 0x5#3 0x11#5 0x1d#5),
    (0x0C10F625#32, .fcmpSafS 0x5#3 0x11#5 0x1d#5),
    (0x0C117625#32, .fcmpCltS 0x5#3 0x11#5 0x1d#5),
    (0x0C11F625#32, .fcmpSltS 0x5#3 0x11#5 0x1d#5),
    (0x0C127625#32, .fcmpCeqS 0x5#3 0x11#5 0x1d#5),
    (0x0C12F625#32, .fcmpSeqS 0x5#3 0x11#5 0x1d#5),
    (0x0C137625#32, .fcmpCleS 0x5#3 0x11#5 0x1d#5),
    (0x0C13F625#32, .fcmpSleS 0x5#3 0x11#5 0x1d#5),
    (0x0C147625#32, .fcmpCunS 0x5#3 0x11#5 0x1d#5),
    (0x0C14F625#32, .fcmpSunS 0x5#3 0x11#5 0x1d#5),
    (0x0C157625#32, .fcmpCultS 0x5#3 0x11#5 0x1d#5),
    (0x0C15F625#32, .fcmpSultS 0x5#3 0x11#5 0x1d#5),
    (0x0C167625#32, .fcmpCueqS 0x5#3 0x11#5 0x1d#5),
    (0x0C16F625#32, .fcmpSueqS 0x5#3 0x11#5 0x1d#5),
    (0x0C177625#32, .fcmpCuleS 0x5#3 0x11#5 0x1d#5),
    (0x0C17F625#32, .fcmpSuleS 0x5#3 0x11#5 0x1d#5),
    (0x0C187625#32, .fcmpCneS 0x5#3 0x11#5 0x1d#5),
    (0x0C18F625#32, .fcmpSneS 0x5#3 0x11#5 0x1d#5),
    (0x0C1A7625#32, .fcmpCorS 0x5#3 0x11#5 0x1d#5),
    (0x0C1AF625#32, .fcmpSorS 0x5#3 0x11#5 0x1d#5),
    (0x0C1C7625#32, .fcmpCuneS 0x5#3 0x11#5 0x1d#5),
    (0x0C1CF625#32, .fcmpSuneS 0x5#3 0x11#5 0x1d#5)]
    : List (Word × Instr)), decodeWord p.1 = .instr p.2 := by decide +kernel

theorem test_decode_fcmp_d : ∀ p ∈ ([
    (0x0C207625#32, .fcmpCafD 0x5#3 0x11#5 0x1d#5),
    (0x0C20F625#32, .fcmpSafD 0x5#3 0x11#5 0x1d#5),
    (0x0C217625#32, .fcmpCltD 0x5#3 0x11#5 0x1d#5),
    (0x0C21F625#32, .fcmpSltD 0x5#3 0x11#5 0x1d#5),
    (0x0C227625#32, .fcmpCeqD 0x5#3 0x11#5 0x1d#5),
    (0x0C22F625#32, .fcmpSeqD 0x5#3 0x11#5 0x1d#5),
    (0x0C237625#32, .fcmpCleD 0x5#3 0x11#5 0x1d#5),
    (0x0C23F625#32, .fcmpSleD 0x5#3 0x11#5 0x1d#5),
    (0x0C247625#32, .fcmpCunD 0x5#3 0x11#5 0x1d#5),
    (0x0C24F625#32, .fcmpSunD 0x5#3 0x11#5 0x1d#5),
    (0x0C257625#32, .fcmpCultD 0x5#3 0x11#5 0x1d#5),
    (0x0C25F625#32, .fcmpSultD 0x5#3 0x11#5 0x1d#5),
    (0x0C267625#32, .fcmpCueqD 0x5#3 0x11#5 0x1d#5),
    (0x0C26F625#32, .fcmpSueqD 0x5#3 0x11#5 0x1d#5),
    (0x0C277625#32, .fcmpCuleD 0x5#3 0x11#5 0x1d#5),
    (0x0C27F625#32, .fcmpSuleD 0x5#3 0x11#5 0x1d#5),
    (0x0C287625#32, .fcmpCneD 0x5#3 0x11#5 0x1d#5),
    (0x0C28F625#32, .fcmpSneD 0x5#3 0x11#5 0x1d#5),
    (0x0C2A7625#32, .fcmpCorD 0x5#3 0x11#5 0x1d#5),
    (0x0C2AF625#32, .fcmpSorD 0x5#3 0x11#5 0x1d#5),
    (0x0C2C7625#32, .fcmpCuneD 0x5#3 0x11#5 0x1d#5),
    (0x0C2CF625#32, .fcmpSuneD 0x5#3 0x11#5 0x1d#5)]
    : List (Word × Instr)), decodeWord p.1 = .instr p.2 := by decide +kernel

theorem test_decode_fp_convert : ∀ p ∈ ([
    (0x01191A23#32, .fcvtSD 0x3#5 0x11#5),
    (0x01192623#32, .fcvtDS 0x3#5 0x11#5),
    (0x011D1223#32, .ffintSW 0x3#5 0x11#5),
    (0x011D2223#32, .ffintDW 0x3#5 0x11#5),
    (0x011B0623#32, .ftintWS 0x3#5 0x11#5),
    (0x011B0A23#32, .ftintWD 0x3#5 0x11#5),
    (0x011A0623#32, .ftintrmWS 0x3#5 0x11#5),
    (0x011A0A23#32, .ftintrmWD 0x3#5 0x11#5),
    (0x011A4623#32, .ftintrpWS 0x3#5 0x11#5),
    (0x011A4A23#32, .ftintrpWD 0x3#5 0x11#5),
    (0x011A8623#32, .ftintrzWS 0x3#5 0x11#5),
    (0x011A8A23#32, .ftintrzWD 0x3#5 0x11#5),
    (0x011AC623#32, .ftintrneWS 0x3#5 0x11#5),
    (0x011ACA23#32, .ftintrneWD 0x3#5 0x11#5)]
    : List (Word × Instr)), decodeWord p.1 = .instr p.2 := by decide +kernel

theorem test_decode_fp_move : ∀ p ∈ ([
    (0x01149623#32, .fmovS 0x3#5 0x11#5),
    (0x01149A23#32, .fmovD 0x3#5 0x11#5),
    (0x0D02F623#32, .fsel 0x3#5 0x11#5 0x1d#5 0x5#3),
    (0x0114A623#32, .movgr2frW 0x3#5 0x11#5),
    (0x0114AA23#32, .movgr2frhW 0x3#5 0x11#5),
    (0x0114B623#32, .movfr2grS 0x3#5 0x11#5),
    (0x0114BA23#32, .movfrh2grS 0x3#5 0x11#5),
    (0x0114C222#32, .movgr2fcsr 0x2#5 0x11#5),
    (0x0114C843#32, .movfcsr2gr 0x3#5 0x2#5),
    (0x0114D225#32, .movfr2cf 0x5#3 0x11#5),
    (0x0114D4C3#32, .movcf2fr 0x3#5 0x6#3),
    (0x0114DA25#32, .movgr2cf 0x5#3 0x11#5),
    (0x0114DCC3#32, .movcf2gr 0x3#5 0x6#3),
    (0x4B0F94D5#32, .bceqz 0x6#3 0x15c3e5#21),
    (0x4B0F95D5#32, .bcnez 0x6#3 0x15c3e5#21),
    (0x2B297223#32, .fldS 0x3#5 0x11#5 0xa5c#12),
    (0x2B697223#32, .fldD 0x3#5 0x11#5 0xa5c#12),
    (0x2BA97223#32, .fstS 0x3#5 0x11#5 0xa5c#12),
    (0x2BE97223#32, .fstD 0x3#5 0x11#5 0xa5c#12)]
    : List (Word × Instr)), decodeWord p.1 = .instr p.2 := by decide +kernel

theorem test_decode_privileged : ∀ p ∈ ([
    (0x04060403#32, .csrrd 0x3#5 0x181#14),
    (0x04060423#32, .csrwr 0x3#5 0x181#14),
    (0x04060623#32, .csrxchg 0x3#5 0x11#5 0x181#14),
    (0x06297235#32, .cacop 0x15#5 0x11#5 0xa5c#12),
    (0x06482800#32, .tlbsrch),
    (0x06482C00#32, .tlbrd),
    (0x06483000#32, .tlbwr),
    (0x06483400#32, .tlbfill),
    (0x0649F626#32, .invtlb 0x6#5 0x11#5 0x1d#5),
    (0x06483800#32, .ertn),
    (0x0648DA5C#32, .idle 0x5a5c#15)]
    : List (Word × Instr)), decodeWord p.1 = .instr p.2 := by decide +kernel

/-- Words that are no instruction (V223, V224, V296, V355, all zeros), and one the spec leaves unspecified (V137). -/
theorem test_decode_none :
    [0x0C190C41#32, 0x0C120C49#32, 0x48000200#32, 0x06482801#32, 0x00000000#32].map decodeWord =
      List.replicate 5 .reserved ∧
    decodeWord 0x00006085#32 = .unspecified ∧ decodeWord 0x00006000#32 = .instr (.rdcntvlW 0#5) := by decide +kernel

/-- The host's view of the opcode table numbers the bits of the one word from its least significant bit. -/
theorem test_decodeTableWord : decodeTableWord 32 0x001018A4 = some (.addW 4#5 5#5 6#5) := by decide +kernel

/-! ## Vectors of integer instructions -/

/-- V1 to V8: sums, differences and upper immediates. -/
theorem test_integer_arithmetic : [
    vec 0x001018A4#32 (regs [(5#5, 0x7FFFFFFF#32), (6#5, 0x1#32)] start) fun t => t.reg 4#5 == 0x80000000#32 && t.pc == 0x1C000004#32,
    vec 0x001118A4#32 (regs [(5#5, 0x0#32), (6#5, 0x1#32)] start) fun t => t.reg 4#5 == 0xFFFFFFFF#32,
    vec 0x02A000A4#32 (regs [(5#5, 0x10#32)] start) fun t => t.reg 4#5 == 0xFFFFF810#32,
    vec 0x028004A0#32 (regs [(5#5, 0x7#32)] start) fun t => t.reg 0#5 == 0x0#32,
    vec 0x15FFFFE4#32 (start) fun t => t.reg 4#5 == 0xFFFFF000#32,
    vec 0x1DFFFFE4#32 (start) fun t => t.reg 4#5 == 0x1BFFF000#32,
    vec 0x1CFFFFE4#32 (start) fun t => t.reg 4#5 == 0x9BFFF000#32].all id = true := by decide +kernel

/-- V9 to V14: comparisons. -/
theorem test_integer_compare : [
    vec 0x001218A4#32 (regs [(5#5, 0x80000000#32), (6#5, 0x7FFFFFFF#32)] start) fun t => t.reg 4#5 == 0x1#32,
    vec 0x001298A4#32 (regs [(5#5, 0x80000000#32), (6#5, 0x7FFFFFFF#32)] start) fun t => t.reg 4#5 == 0x0#32,
    vec 0x023FFCA4#32 (regs [(5#5, 0xFFFFFFFE#32)] start) fun t => t.reg 4#5 == 0x1#32,
    vec 0x027FFCA4#32 (regs [(5#5, 0x0#32)] start) fun t => t.reg 4#5 == 0x1#32,
    vec 0x027FFCA4#32 (regs [(5#5, 0xFFFFFFFF#32)] start) fun t => t.reg 4#5 == 0x0#32].all id = true := by decide +kernel

/-- V15 to V25: products, quotients and remainders. -/
theorem test_multiply_divide : [
    vec 0x001C18A4#32 (regs [(5#5, 0x10001#32), (6#5, 0x10001#32)] start) fun t => t.reg 4#5 == 0x20001#32,
    vec 0x001C98A4#32 (regs [(5#5, 0x80000000#32), (6#5, 0x80000000#32)] start) fun t => t.reg 4#5 == 0x40000000#32,
    vec 0x001C98A4#32 (regs [(5#5, 0xFFFFFFFF#32), (6#5, 0x1#32)] start) fun t => t.reg 4#5 == 0xFFFFFFFF#32,
    vec 0x001D18A4#32 (regs [(5#5, 0xFFFFFFFF#32), (6#5, 0xFFFFFFFF#32)] start) fun t => t.reg 4#5 == 0xFFFFFFFE#32,
    vec 0x002018A4#32 (regs [(5#5, 0xFFFFFFF9#32), (6#5, 0x2#32)] start) fun t => t.reg 4#5 == 0xFFFFFFFD#32,
    vec 0x002018A4#32 (regs [(5#5, 0x80000000#32), (6#5, 0xFFFFFFFF#32)] start) fun t => t.reg 4#5 == 0x80000000#32,
    vec 0x002098A4#32 (regs [(5#5, 0xFFFFFFF9#32), (6#5, 0x2#32)] start) fun t => t.reg 4#5 == 0xFFFFFFFF#32,
    vec 0x002098A4#32 (regs [(5#5, 0x7#32), (6#5, 0xFFFFFFFE#32)] start) fun t => t.reg 4#5 == 0x1#32,
    vec 0x002118A4#32 (regs [(5#5, 0xFFFFFFF9#32), (6#5, 0x2#32)] start) fun t => t.reg 4#5 == 0x7FFFFFFC#32,
    vec 0x002198A4#32 (regs [(5#5, 0xFFFFFFF9#32), (6#5, 0x2#32)] start) fun t => t.reg 4#5 == 0x1#32].all id = true := by decide +kernel

/-- V26: a division by zero completes and draws one free value. -/
theorem test_divide_by_zero :
    vec 0x002018A4#32 (regs [(5#5, 0x7#32), (6#5, 0x0#32)] start) (fun t => t.draws == 1 && t.pc == 0x1C000004#32) = true := by decide +kernel

/-- V30 to V36: bitwise logic. -/
theorem test_logic : [
    vec 0x001498A4#32 (regs [(5#5, 0xFF00FF00#32), (6#5, 0xFF00FF0#32)] start) fun t => t.reg 4#5 == 0xF000F00#32,
    vec 0x001518A4#32 (regs [(5#5, 0xFF00FF00#32), (6#5, 0xFF00FF0#32)] start) fun t => t.reg 4#5 == 0xFFF0FFF0#32,
    vec 0x001418A4#32 (regs [(5#5, 0xFF00FF00#32), (6#5, 0xFF00FF0#32)] start) fun t => t.reg 4#5 == 0xF000F#32,
    vec 0x001598A4#32 (regs [(5#5, 0xFF00FF00#32), (6#5, 0xFF00FF0#32)] start) fun t => t.reg 4#5 == 0xF0F0F0F0#32,
    vec 0x037FFCA4#32 (regs [(5#5, 0xFFFFFFFF#32)] start) fun t => t.reg 4#5 == 0xFFF#32,
    vec 0x03A000A4#32 (regs [(5#5, 0x0#32)] start) fun t => t.reg 4#5 == 0x800#32,
    vec 0x03FFFCA4#32 (regs [(5#5, 0xFFFFFFFF#32)] start) fun t => t.reg 4#5 == 0xFFFFF000#32].all id = true := by decide +kernel

/-- V38 to V46: shifts. -/
theorem test_shift : [
    vec 0x001718A4#32 (regs [(5#5, 0x80000001#32), (6#5, 0x21#32)] start) fun t => t.reg 4#5 == 0x2#32,
    vec 0x001798A4#32 (regs [(5#5, 0x80000001#32), (6#5, 0x21#32)] start) fun t => t.reg 4#5 == 0x40000000#32,
    vec 0x001818A4#32 (regs [(5#5, 0x80000001#32), (6#5, 0x21#32)] start) fun t => t.reg 4#5 == 0xC0000000#32,
    vec 0x001718A4#32 (regs [(5#5, 0x12345678#32), (6#5, 0x20#32)] start) fun t => t.reg 4#5 == 0x12345678#32,
    vec 0x004084A4#32 (regs [(5#5, 0xC0000001#32)] start) fun t => t.reg 4#5 == 0x80000002#32,
    vec 0x004484A4#32 (regs [(5#5, 0xC0000001#32)] start) fun t => t.reg 4#5 == 0x60000000#32,
    vec 0x004884A4#32 (regs [(5#5, 0xC0000001#32)] start) fun t => t.reg 4#5 == 0xE0000000#32,
    vec 0x0048FCA4#32 (regs [(5#5, 0x80000000#32)] start) fun t => t.reg 4#5 == 0xFFFFFFFF#32].all id = true := by decide +kernel

/-- V50 to V59: conditional branches. -/
theorem test_branch : [
    vec 0x580010A6#32 (regs [(5#5, 0x3#32), (6#5, 0x3#32)] start) fun t => t.pc == 0x1C000010#32,
    vec 0x580010A6#32 (regs [(5#5, 0x3#32), (6#5, 0x4#32)] start) fun t => t.pc == 0x1C000004#32,
    vec 0x5BFFFCA6#32 (regs [(5#5, 0x0#32), (6#5, 0x0#32)] start) fun t => t.pc == 0x1BFFFFFC#32,
    vec 0x5C0010A6#32 (regs [(5#5, 0x3#32), (6#5, 0x4#32)] start) fun t => t.pc == 0x1C000010#32,
    vec 0x600010A6#32 (regs [(5#5, 0xFFFFFFFF#32), (6#5, 0x0#32)] start) fun t => t.pc == 0x1C000010#32,
    vec 0x680010A6#32 (regs [(5#5, 0xFFFFFFFF#32), (6#5, 0x0#32)] start) fun t => t.pc == 0x1C000004#32,
    vec 0x640010A6#32 (regs [(5#5, 0x80000000#32), (6#5, 0x80000000#32)] start) fun t => t.pc == 0x1C000010#32,
    vec 0x6C0010A6#32 (regs [(5#5, 0x0#32), (6#5, 0x1#32)] start) fun t => t.pc == 0x1C000004#32,
    vec 0x5A000000#32 (start) fun t => t.pc == 0x1BFE0000#32,
    vec 0x59FFFC00#32 (start) fun t => t.pc == 0x1C01FFFC#32].all id = true := by decide +kernel

/-- V60 to V67: jumps and links. -/
theorem test_jump : [
    vec 0x50000200#32 (start) fun t => t.pc == 0x14000000#32,
    vec 0x53FFFDFF#32 (start) fun t => t.pc == 0x23FFFFFC#32,
    vec 0x50000001#32 (start) fun t => t.pc == 0x1C040000#32,
    vec 0x57FFFFFF#32 (start) fun t => t.reg 1#5 == 0x1C000004#32 && t.pc == 0x1BFFFFFC#32,
    vec 0x4FFFFCA1#32 (regs [(5#5, 0x1C000104#32)] start) fun t => t.reg 1#5 == 0x1C000004#32 && t.pc == 0x1C000100#32,
    vec 0x4C000821#32 (regs [(1#5, 0x1C000100#32)] start) fun t => t.reg 1#5 == 0x1C000004#32 && t.pc == 0x1C000108#32,
    vec 0x4C000020#32 (regs [(1#5, 0x1C00000C#32)] start) fun t => t.pc == 0x1C00000C#32].all id = true := by decide +kernel

/-- V80 to V91: loads. -/
theorem test_load : [
    vec 0x280000A4#32 (atBytes 0x1C001000#32) fun t => t.reg 4#5 == 0xFFFFFF80#32,
    vec 0x2A0000A4#32 (atBytes 0x1C001000#32) fun t => t.reg 4#5 == 0x80#32,
    vec 0x280008A4#32 (atBytes 0x1C001000#32) fun t => t.reg 4#5 == 0x7F#32,
    vec 0x284000A4#32 (atBytes 0x1C001000#32) fun t => t.reg 4#5 == 0xFFFFFF80#32,
    vec 0x2A4000A4#32 (atBytes 0x1C001000#32) fun t => t.reg 4#5 == 0xFF80#32,
    vec 0x284010A4#32 (atBytes 0x1C001000#32) fun t => t.reg 4#5 == 0xFFFF8234#32,
    vec 0x2A4010A4#32 (atBytes 0x1C001000#32) fun t => t.reg 4#5 == 0x8234#32,
    vec 0x288000A4#32 (atBytes 0x1C001000#32) fun t => t.reg 4#5 == 0x7FFF80#32,
    vec 0x288010A4#32 (atBytes 0x1C001000#32) fun t => t.reg 4#5 == 0xABCD8234#32,
    vec 0x283FFCA4#32 (atBytes 0x1C001001#32) fun t => t.reg 4#5 == 0xFFFFFF80#32].all id = true := by decide +kernel

/-- V95 to V97, V100: stores; a byte of 0 leaves no entry in the canonical memory. -/
theorem test_store : [
    vec 0x290000A4#32 (atBytes 0x1C001000#32) fun t => t.mem == [(0x1C001000, 0x78#8), (0x1C001001, 0xFF#8), (0x1C001002, 0x7F#8), (0x1C001004, 0x34#8), (0x1C001005, 0x82#8), (0x1C001006, 0xCD#8), (0x1C001007, 0xAB#8)],
    vec 0x294008A4#32 (atBytes 0x1C001000#32) fun t => t.mem == [(0x1C001000, 0x80#8), (0x1C001001, 0xFF#8), (0x1C001002, 0x78#8), (0x1C001003, 0x56#8), (0x1C001004, 0x34#8), (0x1C001005, 0x82#8), (0x1C001006, 0xCD#8), (0x1C001007, 0xAB#8)],
    vec 0x298010A4#32 (atBytes 0x1C001000#32) fun t => t.mem == [(0x1C001000, 0x80#8), (0x1C001001, 0xFF#8), (0x1C001002, 0x7F#8), (0x1C001004, 0x78#8), (0x1C001005, 0x56#8), (0x1C001006, 0x34#8), (0x1C001007, 0x12#8)],
    vec 0x290004A0#32 (atBytes 0x1C001000#32) fun t => t.mem == [(0x1C001000, 0x80#8), (0x1C001002, 0x7F#8), (0x1C001004, 0x34#8), (0x1C001005, 0x82#8), (0x1C001006, 0xCD#8), (0x1C001007, 0xAB#8)]].all id = true := by decide +kernel

/-- V93, V94, V98, V99, V302, V303: ALE, nothing written. -/
theorem test_misaligned : [
    vec 0x288008A4#32 (atBytes 0x1C001000#32) fun t => t.ecode == 0x9#6 && t.csr.era == 0x1C000000#32 && t.pc == 0x1C000100#32 && t.csr.badv == 0x1C001002#32 && t.reg 4#5 == 0x12345678#32,
    vec 0x284004A4#32 (atBytes 0x1C001000#32) fun t => t.ecode == 0x9#6 && t.csr.era == 0x1C000000#32 && t.pc == 0x1C000100#32 && t.csr.badv == 0x1C001001#32,
    vec 0x297FFCA4#32 (atBytes 0x1C001000#32) fun t => t.ecode == 0x9#6 && t.csr.era == 0x1C000000#32 && t.pc == 0x1C000100#32 && t.csr.badv == 0x1C000FFF#32 && t.mem == bytes,
    vec 0x298008A4#32 (atBytes 0x1C001000#32) fun t => t.ecode == 0x9#6 && t.csr.era == 0x1C000000#32 && t.pc == 0x1C000100#32 && t.csr.badv == 0x1C001002#32,
    vec 0x2B4010A1#32 (atBytes 0x1C001000#32) fun t => t.ecode == 0x9#6 && t.csr.era == 0x1C000000#32 && t.pc == 0x1C000100#32 && t.csr.badv == 0x1C001004#32,
    vec 0x2BC010A1#32 (atBytes 0x1C001000#32) fun t => t.ecode == 0x9#6 && t.csr.era == 0x1C000000#32 && t.pc == 0x1C000100#32 && t.csr.badv == 0x1C001004#32,
    vec 0x2B8004A1#32 (atBytes 0x1C001000#32) fun t => t.ecode == 0x9#6 && t.csr.era == 0x1C000000#32 && t.pc == 0x1C000100#32 && t.csr.badv == 0x1C001001#32].all id = true := by decide +kernel

/-- V101, V103, V119 to V121: PRELD raises nothing at PLV 3 in mapped mode; the barriers only advance. -/
theorem test_preld_barrier : [
    vec 0x2AC000A0#32 (atBytes 0x1C001000#32) fun t => t == { atBytes 0x1C001000#32 with pc := 0x1C000004#32 },
    vec 0x2AFFFCBF#32 (mode 0x13#32 start) fun t => t.pc == 0x1C000004#32,
    vec 0x38727FFF#32 (start) fun t => t == { start with pc := 0x1C000004#32 },
    vec 0x38728001#32 ({ start with unseen := [⟨true, [(0, 1#8)]⟩, ⟨false, [(0, 2#8), (1, 3#8)]⟩] }) fun t => t == { start with pc := 0x1C000004#32, unseen := [⟨false, [(1, 3#8)]⟩] }].all id = true := by decide +kernel

/-- Cached memory with the word 5 at 0x1C001000 and x[5] there (section 2.5). -/
def cached : State :=
  { regs [(4#5, 6#32), (5#5, 0x1C001000#32)] (mode 0x88#32 start) with mem := [(0x1C001000, 5#8)] }

/-- The same with the reservation held. -/
def linked : State := { cached with llbit := true, llAddr := 0x1C001000#36 }

/-- V110 to V114, V118: LL.W and SC.W; LLbit after SC.W is a free value. -/
theorem test_ll_sc : [
    vec 0x200000A4#32 (cached) fun t => t.reg 4#5 == 0x5#32 && t.llbit && t.llAddr == 0x1C001000#36,
    vec 0x210000A4#32 (linked) fun t => t.reg 4#5 == 0x1#32 && t.mem == [(0x1C001000, 6#8)],
    vec 0x210000A4#32 (cached) fun t => t.reg 4#5 == 0x0#32 && t.mem == [(0x1C001000, 5#8)],
    vec 0x210000A0#32 (linked) fun t => t.mem == [],
    vec 0x20FFFCA4#32 (regs [(5#5, 0x1C001004#32)] cached) fun t => t.reg 4#5 == 0x5#32,
    refuses 0x200000A4#32 (mode 0x8#32 cached) .llscNotCached,
    refuses 0x210000A4#32 { linked with llAddr := 0x1C001004#36 } .scAddressMismatch].all id = true := by decide +kernel

/-- V117: a store of the external agent into the reserved line clears LLbit and one outside it does not; an event of ticks
moves the Stable Counter and the timer. -/
theorem test_input_events :
    (linked.applyEvent ⟨0, 0#8, false, [(0x1C00103F#36, 1#8)], false, false⟩).llbit = false ∧
    (linked.applyEvent ⟨0, 0#8, false, [(0x1C001040#36, 1#8)], false, false⟩).llbit = true ∧
    (start.applyEvent ⟨7, 1#8, false, [], false, false⟩).stableCounter = 7#64 ∧
    ({ start with timer := 2#32, timerRunning := true }.applyEvent ⟨3, 0#8, false, [], false, false⟩).csr.estat =
      0x800#32 := by decide +kernel

/-- V130 to V136: SYSCALL, BREAK and the counter reads. -/
theorem test_misc : [
    vec 0x002B7FFF#32 (start) fun t => t.ecode == 0xB#6 && t.csr.era == 0x1C000000#32 && t.pc == 0x1C000100#32,
    vec 0x002A0005#32 (start) fun t => t.ecode == 0xC#6 && t.csr.era == 0x1C000000#32 && t.pc == 0x1C000100#32,
    vec 0x00006004#32 ({ start with stableCounter := 0x00000001FFFFFFF0#64 }) fun t => t.reg 4#5 == 0xFFFFFFF0#32,
    vec 0x00006405#32 ({ start with stableCounter := 0x00000001FFFFFFF0#64 }) fun t => t.reg 5#5 == 0x1#32,
    vec 0x00006080#32 ({ start with csr := { start.csr with tid := 0x2A#32 } }) fun t => t.reg 4#5 == 0x2A#32,
    vec 0x00006000#32 (start) fun t => t == { start with pc := 0x1C000004#32 }].all id = true := by decide +kernel

/-! ## Vectors of floating-point instructions -/

/-- Start with these f[2], f[3], f[4] and fcsr0. -/
def fpu (a b c : DWord) (fcsr : Word) : State := { fregs [(2#5, a), (3#5, b), (4#5, c)] start with fcsr0 := fcsr }

/-- The instruction completes with `v` in the low half of f[1], whose high half is a free value, and this fcsr0. -/
def Low (o : Ending) (v fcsr : Word) : Prop := ∃ t, o = .next t ∧ t.fregLow 1#5 = v ∧ t.fcsr0 = fcsr

/-- The exceptions do not trap and leave this fcsr0. -/
def quietly (s : State) (e : FpFlags) (te : Bool) (fcsr : Word) : Bool :=
  !(te && s.fpEnables.getLsbD 1) && e &&& s.fpEnables == 0#5 && ((s.setFpCause e).addFpFlags e).fcsr0 == fcsr

theorem commit_low {s : State} {e : FpFlags} {te : Bool} {w : State → State} {v fcsr : Word}
    (h : quietly s e te fcsr = true) (hw : ∀ t, (w t).fregLow 1#5 = v ∧ (w t).fcsr0 = t.fcsr0) :
    Low (s.fpCommit e te w) v fcsr := by
  simp only [quietly, Bool.and_eq_true, Bool.not_eq_true', beq_iff_eq] at h
  obtain ⟨⟨h1, h2⟩, h3⟩ := h
  have he : s.fpExceptions e te = e := by rw [State.fpExceptions, h1]; rfl
  rw [State.fpCommit_quiet (by rw [he]; exact h2), he]
  exact ⟨_, rfl, (hw _).1, (hw _).2.trans h3⟩

theorem arithS_low {s : State} {op : FpOp} {args : List DWord} {r : FpOut} {v fcsr : Word} (hf : s.fpe = true)
    (h : (match r with | .num b e te => BitVec.ofNat 32 b == v && quietly s e te fcsr | _ => false) = true) :
    Low (s.arithS 1#5 op args r) v fcsr := by
  rw [State.arithS, State.fpArith_enabled hf]
  match r, h with
  | .num b e te, h =>
    simp only [Bool.and_eq_true, beq_iff_eq] at h
    exact commit_low h.2 fun t => ⟨(State.fregLow_setFregLow _ _ _).trans h.1, rfl⟩

theorem selectS_low {s : State} {op : FpOp} {args : List DWord} {r : FpOut} {v fcsr : Word} (hf : s.fpe = true)
    (h : (match r with | .num b e te => BitVec.ofNat 32 b == v && quietly s e te fcsr | _ => false) = true) :
    Low (s.selectS 1#5 op args r) v fcsr := by
  rw [State.selectS, State.fpArith_enabled hf]
  match r, h with
  | .num b e te, h =>
    simp only [Bool.and_eq_true, beq_iff_eq] at h
    exact commit_low h.2 fun t => ⟨(State.fregLow_setFregLow _ _ _).trans h.1, rfl⟩

theorem toInt_low {s : State} {rd : Rounding} {a : FpVal} {inv v fcsr : Word} (hf : s.fpe = true)
    (h : (match a.toSint32 rd with | some (w, e) => w == v && quietly s e false fcsr | none => false) = true) :
    Low (s.toInt 1#5 rd a inv) v fcsr := by
  unfold State.toInt
  match a.toSint32 rd, h with
  | some (w, e), h =>
    simp only [Bool.and_eq_true, beq_iff_eq] at h
    simp only [State.fpArith_enabled hf]
    exact commit_low h.2 fun t => ⟨(State.fregLow_setFregLow _ _ _).trans h.1, rfl⟩

theorem move_low {s : State} {w v : Word} (hf : s.fpe = true) (h : w = v) :
    Low (s.complete (s.fpOnly.bind fun _ => .ok (s.setFregLow 1#5 w).advance)) v s.fcsr0 := by
  rw [State.fpOnly_ok hf]
  exact ⟨_, rfl, (State.fregLow_setFregLow s _ _).trans h, rfl⟩

/-- V150 to V161: binary32 sums, products, quotients, with the fcsr0 they leave; V156 also downward. -/
theorem test_single_arithmetic :
    Low (exec (.faddS 1#5 2#5 3#5) (fpu 0x3F800000#64 0x40000000#64 0x0#64 0x0#32)) 0x40400000#32 0x0#32 ∧
    Low (exec (.faddS 1#5 2#5 3#5) (fpu 0x3F800000#64 0x33800000#64 0x0#64 0x0#32)) 0x3F800000#32 0x1010000#32 ∧
    Low (exec (.faddS 1#5 2#5 3#5) (fpu 0x3F800000#64 0x33800000#64 0x0#64 0x200#32)) 0x3F800001#32 0x1010200#32 ∧
    Low (exec (.faddS 1#5 2#5 3#5) (fpu 0x7F7FFFFF#64 0x7F7FFFFF#64 0x0#64 0x0#32)) 0x7F800000#32 0x5050000#32 ∧
    Low (exec (.faddS 1#5 2#5 3#5) (fpu 0x7F7FFFFF#64 0x7F7FFFFF#64 0x0#64 0x100#32)) 0x7F7FFFFF#32 0x5050100#32 ∧
    Low (exec (.faddS 1#5 2#5 3#5) (fpu 0x3F800000#64 0xBF800000#64 0x0#64 0x0#32)) 0x0#32 0x0#32 ∧
    Low (exec (.faddS 1#5 2#5 3#5) (fpu 0x3F800000#64 0xBF800000#64 0x0#64 0x300#32)) 0x80000000#32 0x300#32 ∧
    Low (exec (.fsubS 1#5 2#5 3#5) (fpu 0x40400000#64 0x3F800000#64 0x0#64 0x0#32)) 0x40000000#32 0x0#32 ∧
    Low (exec (.fmulS 1#5 2#5 3#5) (fpu 0x800001#64 0x3F000000#64 0x0#64 0x0#32)) 0x400000#32 0x3030000#32 ∧
    Low (exec (.fdivS 1#5 2#5 3#5) (fpu 0x3F800000#64 0x40400000#64 0x0#64 0x0#32)) 0x3EAAAAAB#32 0x1010000#32 ∧
    Low (exec (.fdivS 1#5 2#5 3#5) (fpu 0x3F800000#64 0x0#64 0x0#64 0x0#32)) 0x7F800000#32 0x8080000#32 := by
  and_intros <;> dsimp only [exec] <;> refine arithS_low ?_ ?_ <;> decide +kernel

/-- V166 to V169: the fused forms round once. -/
theorem test_single_fused :
    Low (exec (.fmaddS 1#5 2#5 3#5 4#5) (fpu 0x3F800001#64 0x3F800001#64 0xBF800002#64 0x0#32)) 0x28800000#32 0x0#32 ∧
    Low (exec (.fmsubS 1#5 2#5 3#5 4#5) (fpu 0x40000000#64 0x40400000#64 0x3F800000#64 0x0#32)) 0x40A00000#32 0x0#32 ∧
    Low (exec (.fnmaddS 1#5 2#5 3#5 4#5) (fpu 0x40000000#64 0x40400000#64 0x3F800000#64 0x0#32)) 0xC0E00000#32 0x0#32 ∧
    Low (exec (.fnmsubS 1#5 2#5 3#5 4#5) (fpu 0x40000000#64 0x40400000#64 0x3F800000#64 0x0#32)) 0xC0A00000#32 0x0#32 := by
  and_intros <;> dsimp only [exec] <;> refine arithS_low ?_ ?_ <;> decide +kernel

/-- V171, V174 to V180: roots and reciprocals. -/
theorem test_single_roots :
    Low (exec (.fsqrtS 1#5 2#5) (fpu 0x40000000#64 0x0#64 0x0#64 0x0#32)) 0x3FB504F3#32 0x1010000#32 ∧
    Low (exec (.fsqrtS 1#5 2#5) (fpu 0x80000000#64 0x0#64 0x0#64 0x0#32)) 0x80000000#32 0x0#32 ∧
    Low (exec (.frecipS 1#5 2#5) (fpu 0x40000000#64 0x0#64 0x0#64 0x0#32)) 0x3F000000#32 0x0#32 ∧
    Low (exec (.frecipS 1#5 2#5) (fpu 0x200000#64 0x0#64 0x0#64 0x0#32)) 0x7F800000#32 0x5050000#32 ∧
    Low (exec (.frecipS 1#5 2#5) (fpu 0x7F000000#64 0x0#64 0x0#64 0x0#32)) 0x400000#32 0x0#32 ∧
    Low (exec (.frecipS 1#5 2#5) (fpu 0x0#64 0x0#64 0x0#64 0x0#32)) 0x7F800000#32 0x8080000#32 ∧
    Low (exec (.frsqrtS 1#5 2#5) (fpu 0x40800000#64 0x0#64 0x0#64 0x0#32)) 0x3F000000#32 0x0#32 ∧
    Low (exec (.frsqrtS 1#5 2#5) (fpu 0x0#64 0x0#64 0x0#64 0x0#32)) 0x7F800000#32 0x8080000#32 := by
  and_intros <;> dsimp only [exec] <;> refine arithS_low ?_ ?_ <;> decide +kernel

/-- V190 to V193, V197 to V200: maximum and minimum, by value and by magnitude. -/
theorem test_single_max_min :
    Low (exec (.fmaxS 1#5 2#5 3#5) (fpu 0x3F800000#64 0x40000000#64 0x0#64 0x0#32)) 0x40000000#32 0x0#32 ∧
    Low (exec (.fminS 1#5 2#5 3#5) (fpu 0x3F800000#64 0x40000000#64 0x0#64 0x0#32)) 0x3F800000#32 0x0#32 ∧
    Low (exec (.fmaxS 1#5 2#5 3#5) (fpu 0x7FC00000#64 0x3F800000#64 0x0#64 0x0#32)) 0x3F800000#32 0x0#32 ∧
    Low (exec (.fminS 1#5 2#5 3#5) (fpu 0x3F800000#64 0x7FC00000#64 0x0#64 0x0#32)) 0x3F800000#32 0x0#32 ∧
    Low (exec (.fmaxaS 1#5 2#5 3#5) (fpu 0xC0400000#64 0x40000000#64 0x0#64 0x0#32)) 0xC0400000#32 0x0#32 ∧
    Low (exec (.fminaS 1#5 2#5 3#5) (fpu 0xC0400000#64 0x40000000#64 0x0#64 0x0#32)) 0x40000000#32 0x0#32 ∧
    Low (exec (.fmaxaS 1#5 2#5 3#5) (fpu 0x40000000#64 0xC0000000#64 0x0#64 0x0#32)) 0x40000000#32 0x0#32 ∧
    Low (exec (.fminaS 1#5 2#5 3#5) (fpu 0x40000000#64 0xC0000000#64 0x0#64 0x0#32)) 0xC0000000#32 0x0#32 := by
  and_intros <;> dsimp only [exec] <;> refine selectS_low ?_ ?_ <;> decide +kernel

/-- V202 to V204, V206, V208, V270, V275: sign operations, FCLASS.S and the moves into a low half; fcsr0 untouched. -/
theorem test_sign_and_class :
    Low (exec (.fabsS 1#5 2#5) (fpu 0xBF800000#64 0x0#64 0x0#64 0x10#32)) 0x3F800000#32 0x10#32 ∧
    Low (exec (.fabsS 1#5 2#5) (fpu 0xFF800001#64 0x0#64 0x0#64 0x0#32)) 0x7F800001#32 0x0#32 ∧
    Low (exec (.fnegS 1#5 2#5) (fpu 0x0#64 0x0#64 0x0#64 0x0#32)) 0x80000000#32 0x0#32 ∧
    Low (exec (.fcopysignS 1#5 2#5 3#5) (fpu 0x3F800000#64 0x80000000#64 0x0#64 0x0#32)) 0xBF800000#32 0x0#32 ∧
    Low (exec (.fclassS 1#5 2#5) (fpu 0x7F800001#64 0x0#64 0x0#64 0x0#32)) 0x1#32 0x0#32 ∧
    Low (exec (.fclassS 1#5 2#5) (fpu 0x7FC00000#64 0x0#64 0x0#64 0x0#32)) 0x2#32 0x0#32 ∧
    Low (exec (.fclassS 1#5 2#5) (fpu 0xFF800000#64 0x0#64 0x0#64 0x0#32)) 0x4#32 0x0#32 ∧
    Low (exec (.fclassS 1#5 2#5) (fpu 0xBF800000#64 0x0#64 0x0#64 0x0#32)) 0x8#32 0x0#32 ∧
    Low (exec (.fclassS 1#5 2#5) (fpu 0x80000001#64 0x0#64 0x0#64 0x0#32)) 0x10#32 0x0#32 ∧
    Low (exec (.fclassS 1#5 2#5) (fpu 0x80000000#64 0x0#64 0x0#64 0x0#32)) 0x20#32 0x0#32 ∧
    Low (exec (.fclassS 1#5 2#5) (fpu 0x7F800000#64 0x0#64 0x0#64 0x0#32)) 0x40#32 0x0#32 ∧
    Low (exec (.fclassS 1#5 2#5) (fpu 0x3F800000#64 0x0#64 0x0#64 0x0#32)) 0x80#32 0x0#32 ∧
    Low (exec (.fclassS 1#5 2#5) (fpu 0x1#64 0x0#64 0x0#64 0x0#32)) 0x100#32 0x0#32 ∧
    Low (exec (.fclassS 1#5 2#5) (fpu 0x0#64 0x0#64 0x0#64 0x0#32)) 0x200#32 0x0#32 ∧
    Low (exec (.fmovS 1#5 2#5) (fpu 0x112233447F800001#64 0x0#64 0x0#64 0x0#32)) 0x7F800001#32 0x0#32 := by
  and_intros <;> dsimp only [exec] <;> refine move_low ?_ ?_ <;> decide +kernel

/-- V230 to V233, V237 to V240: to binary32. -/
theorem test_conversions :
    Low (exec (.fcvtSD 1#5 2#5) (fpu 0x3FF8000000000000#64 0x0#64 0x0#64 0x0#32)) 0x3FC00000#32 0x0#32 ∧
    Low (exec (.fcvtSD 1#5 2#5) (fpu 0x47EFFFFFFFFFFFFF#64 0x0#64 0x0#64 0x0#32)) 0x7F800000#32 0x5050000#32 ∧
    Low (exec (.fcvtSD 1#5 2#5) (fpu 0x3690000000000000#64 0x0#64 0x0#64 0x0#32)) 0x0#32 0x3030000#32 ∧
    Low (exec (.fcvtSD 1#5 2#5) (fpu 0x36A0000000000000#64 0x0#64 0x0#64 0x0#32)) 0x1#32 0x0#32 ∧
    Low (exec (.ffintSW 1#5 2#5) (fpu 0x7FFFFFFF#64 0x0#64 0x0#64 0x0#32)) 0x4F000000#32 0x1010000#32 ∧
    Low (exec (.ffintSW 1#5 2#5) (fpu 0x7FFFFFFF#64 0x0#64 0x0#64 0x100#32)) 0x4EFFFFFF#32 0x1010100#32 ∧
    Low (exec (.ffintSW 1#5 2#5) (fpu 0x1000001#64 0x0#64 0x0#64 0x0#32)) 0x4B800000#32 0x1010000#32 ∧
    Low (exec (.ffintSW 1#5 2#5) (fpu 0xFFFFFFFF#64 0x0#64 0x0#64 0x0#32)) 0xBF800000#32 0x0#32 := by
  and_intros <;> dsimp only [exec] <;> refine arithS_low ?_ ?_ <;> decide +kernel

/-- V250 to V256, V260, V261: the ten conversions to an integer. -/
theorem test_to_integer :
    Low (exec (.ftintrneWS 1#5 2#5) (fpu 0x40200000#64 0x0#64 0x0#64 0x0#32)) 0x2#32 0x1010000#32 ∧
    Low (exec (.ftintrzWS 1#5 2#5) (fpu 0xC0700000#64 0x0#64 0x0#64 0x0#32)) 0xFFFFFFFD#32 0x1010000#32 ∧
    Low (exec (.ftintrpWS 1#5 2#5) (fpu 0x40200000#64 0x0#64 0x0#64 0x0#32)) 0x3#32 0x1010000#32 ∧
    Low (exec (.ftintrmWS 1#5 2#5) (fpu 0xBF000000#64 0x0#64 0x0#64 0x0#32)) 0xFFFFFFFF#32 0x1010000#32 ∧
    Low (exec (.ftintrneWS 1#5 2#5) (fpu 0x40600000#64 0x0#64 0x0#64 0x0#32)) 0x4#32 0x1010000#32 ∧
    Low (exec (.ftintrpWS 1#5 2#5) (fpu 0xBF000000#64 0x0#64 0x0#64 0x0#32)) 0x0#32 0x1010000#32 ∧
    Low (exec (.ftintrneWS 1#5 2#5) (fpu 0xCF000000#64 0x0#64 0x0#64 0x0#32)) 0x80000000#32 0x0#32 ∧
    Low (exec (.ftintWS 1#5 2#5) (fpu 0x40200000#64 0x0#64 0x0#64 0x0#32)) 0x2#32 0x1010000#32 ∧
    Low (exec (.ftintWS 1#5 2#5) (fpu 0x40200000#64 0x0#64 0x0#64 0x100#32)) 0x2#32 0x1010100#32 ∧
    Low (exec (.ftintWS 1#5 2#5) (fpu 0x40200000#64 0x0#64 0x0#64 0x200#32)) 0x3#32 0x1010200#32 ∧
    Low (exec (.ftintWS 1#5 2#5) (fpu 0x40200000#64 0x0#64 0x0#64 0x300#32)) 0x2#32 0x1010300#32 ∧
    Low (exec (.ftintrneWD 1#5 2#5) (fpu 0x400C000000000000#64 0x0#64 0x0#64 0x0#32)) 0x4#32 0x1010000#32 ∧
    Low (exec (.ftintrzWD 1#5 2#5) (fpu 0x41DFFFFFFFE00000#64 0x0#64 0x0#64 0x0#32)) 0x7FFFFFFF#32 0x1010000#32 ∧
    Low (exec (.ftintrpWD 1#5 2#5) (fpu 0xC00E000000000000#64 0x0#64 0x0#64 0x0#32)) 0xFFFFFFFD#32 0x1010000#32 ∧
    Low (exec (.ftintrmWD 1#5 2#5) (fpu 0x41DFFFFFFFE00000#64 0x0#64 0x0#64 0x0#32)) 0x7FFFFFFF#32 0x1010000#32 ∧
    Low (exec (.ftintWD 1#5 2#5) (fpu 0x4008000000000000#64 0x0#64 0x0#64 0x300#32)) 0x3#32 0x300#32 ∧
    Low (exec (.ftintrmWD 1#5 2#5) (fpu 0xC00E000000000000#64 0x0#64 0x0#64 0x0#32)) 0xFFFFFFFC#32 0x1010000#32 := by
  and_intros <;> dsimp only [exec] <;> refine toInt_low ?_ ?_ <;> decide +kernel

/-- V155, V159, V162, V173, V194, V195, V234, V257 to V259: the exceptions where the value is a quiet NaN or free; V163: FPE. -/
theorem test_invalid_operations : [
    vec 0x01008C41#32 (fpu 0x7F800000#64 0xFF800000#64 0x0#64 0x0#32) fun t => t.fcsr0 == 0x10100000#32,
    vec 0x01048C41#32 (fpu 0x0#64 0x7F800000#64 0x0#64 0x0#32) fun t => t.fcsr0 == 0x10100000#32,
    vec 0x01068C41#32 (fpu 0x0#64 0x0#64 0x0#64 0x0#32) fun t => t.fcsr0 == 0x10100000#32,
    vec 0x01144441#32 (fpu 0xBF800000#64 0x0#64 0x0#64 0x0#32) fun t => t.fcsr0 == 0x10100000#32,
    vec 0x01088C41#32 (fpu 0x7F800001#64 0x3F800000#64 0x0#64 0x0#32) fun t => t.fcsr0 == 0x10100000#32,
    vec 0x01088C41#32 (fpu 0x7FC00000#64 0x7FC00000#64 0x0#64 0x0#32) fun t => t.fcsr0 == 0x0#32,
    vec 0x01191841#32 (fpu 0x7FF0000000000001#64 0x0#64 0x0#64 0x0#32) fun t => t.fcsr0 == 0x10100000#32,
    vec 0x011B0441#32 (fpu 0x4F000000#64 0x0#64 0x0#64 0x0#32) fun t => t.fcsr0 == 0x10100000#32,
    vec 0x011A8841#32 (fpu 0x7FF8000000000000#64 0x0#64 0x0#64 0x0#32) fun t => t.fcsr0 == 0x10100000#32,
    vec 0x011AC441#32 (fpu 0xFF800000#64 0x0#64 0x0#64 0x0#32) fun t => t.fcsr0 == 0x10100000#32,
    vec 0x01068C41#32 (fpu 0x3F800000#64 0x0#64 0x0#64 0x8#32) fun t => t.fcsr0 == 0x08000008#32 && t.freg 1#5 == 0#64 && t.ecode == 0x12#6 && t.csr.era == 0x1C000000#32].all id = true := by decide +kernel

/-- V164, V165, V170, V172, V181, V201, V205, V207, V209, V235, V236, V241, V242: binary64 results. -/
theorem test_double_arithmetic : [
    vec 0x01010C41#32 (fpu 0x3FF0000000000000#64 0x4000000000000000#64 0x0#64 0x0#32) fun t => t.freg 1#5 == 0x4008000000000000#64,
    vec 0x01030C41#32 (fpu 0x4008000000000000#64 0x4000000000000000#64 0x0#64 0x0#32) fun t => t.freg 1#5 == 0x3FF0000000000000#64,
    vec 0x01050C41#32 (fpu 0x4008000000000000#64 0x4000000000000000#64 0x0#64 0x0#32) fun t => t.freg 1#5 == 0x4018000000000000#64,
    vec 0x01070C41#32 (fpu 0x4008000000000000#64 0x4000000000000000#64 0x0#64 0x0#32) fun t => t.freg 1#5 == 0x3FF8000000000000#64,
    vec 0x08220C41#32 (fpu 0x4000000000000000#64 0x4008000000000000#64 0x3FF0000000000000#64 0x0#32) fun t => t.freg 1#5 == 0x401C000000000000#64,
    vec 0x01144841#32 (fpu 0x4000000000000000#64 0x0#64 0x0#64 0x0#32) fun t => t.freg 1#5 == 0x3FF6A09E667F3BCD#64 && t.fcsr0 == 0x1010000#32,
    vec 0x01146841#32 (fpu 0x4010000000000000#64 0x0#64 0x0#64 0x0#32) fun t => t.freg 1#5 == 0x3FE0000000000000#64,
    vec 0x01145841#32 (fpu 0x4010000000000000#64 0x0#64 0x0#64 0x0#32) fun t => t.freg 1#5 == 0x3FD0000000000000#64,
    vec 0x01090C41#32 (fpu 0x3FF0000000000000#64 0xC000000000000000#64 0x0#64 0x0#32) fun t => t.freg 1#5 == 0x3FF0000000000000#64,
    vec 0x010F0C41#32 (fpu 0x3FF0000000000000#64 0xC000000000000000#64 0x0#64 0x0#32) fun t => t.freg 1#5 == 0x3FF0000000000000#64,
    vec 0x01141841#32 (fpu 0x8000000000000000#64 0x0#64 0x0#64 0x0#32) fun t => t.freg 1#5 == 0x0#64,
    vec 0x01140841#32 (fpu 0x8000000000000000#64 0x0#64 0x0#64 0x0#32) fun t => t.freg 1#5 == 0x0#64,
    vec 0x01130C41#32 (fpu 0xFFF8000000000000#64 0x0#64 0x0#64 0x0#32) fun t => t.freg 1#5 == 0x7FF8000000000000#64,
    vec 0x01143841#32 (fpu 0x0#64 0x0#64 0x0#64 0x0#32) fun t => t.freg 1#5 == 0x200#64,
    vec 0x01143841#32 (fpu 0xFFF0000000000000#64 0x0#64 0x0#64 0x0#32) fun t => t.freg 1#5 == 0x4#64,
    vec 0x01143841#32 (fpu 0x7FF0000000000001#64 0x0#64 0x0#64 0x0#32) fun t => t.freg 1#5 == 0x1#64,
    vec 0x01192441#32 (fpu 0x1#64 0x0#64 0x0#64 0x0#32) fun t => t.freg 1#5 == 0x36A0000000000000#64,
    vec 0x01192441#32 (fpu 0xC0490FDB#64 0x0#64 0x0#64 0x0#32) fun t => t.freg 1#5 == 0xC00921FB60000000#64,
    vec 0x011D2041#32 (fpu 0x7FFFFFFF#64 0x0#64 0x0#64 0x0#32) fun t => t.freg 1#5 == 0x41DFFFFFFFC00000#64,
    vec 0x011D2041#32 (fpu 0x80000000#64 0x0#64 0x0#64 0x0#32) fun t => t.freg 1#5 == 0xC1E0000000000000#64].all id = true := by decide +kernel

/-- The table of section 2.9: the condition, whether it raises V for a quiet NaN, and the flag for LT, GT, EQ and UN. -/
def compareTable : List (BitVec 5 × Bool × List Bool) :=
  [(0x00#5, false, [false, false, false, false]), (0x01#5, true, [false, false, false, false]), (0x08#5, false, [false, false, false, true]), (0x09#5, true, [false, false, false, true]),
   (0x04#5, false, [false, false, true, false]), (0x05#5, true, [false, false, true, false]), (0x0C#5, false, [false, false, true, true]), (0x0D#5, true, [false, false, true, true]),
   (0x02#5, false, [true, false, false, false]), (0x03#5, true, [true, false, false, false]), (0x0A#5, false, [true, false, false, true]), (0x0B#5, true, [true, false, false, true]),
   (0x06#5, false, [true, false, true, false]), (0x07#5, true, [true, false, true, false]), (0x0E#5, false, [true, false, true, true]), (0x0F#5, true, [true, false, true, true]),
   (0x10#5, false, [true, true, false, false]), (0x11#5, true, [true, true, false, false]), (0x14#5, false, [true, true, true, false]), (0x15#5, true, [true, true, true, false]),
   (0x18#5, false, [true, true, false, true]), (0x19#5, true, [true, true, false, true])]

/-- Run the comparison of a row on a pair of operands: the flag, and fcsr0. -/
def compares (op : Word) (cond : BitVec 5) (a b : DWord) (flag : Bool) (fcsr : Word) : Bool :=
  vec (op ||| cond.setWidth 32 <<< 15) (fpu a b 0#64 0#32) fun t => t.cflag 1#3 == flag && t.fcsr0 == fcsr

/-- Section 2.9 in binary32: each of the 22 conditions on the four relations; +0 and -0 are equal. -/
theorem test_compare_single :
    (compareTable.all fun p =>
      (([(0x3F800000#64, 0x40000000#64), (0x40000000#64, 0x3F800000#64), (0#64, 0x80000000#64)].zip p.2.2).all fun q =>
        compares 0x0C100C41#32 p.1 q.1.1 q.1.2 q.2 0#32) &&
      compares 0x0C100C41#32 p.1 0x7FC00000#64 0x3F800000#64 (p.2.2.getD 3 false) (if p.2.1 then 0x10100000#32 else 0#32)) = true := by
  decide +kernel

/-- The same in binary64, with a signaling NaN for the last column. -/
theorem test_compare_double :
    (compareTable.all fun p =>
      (([(0xBFF0000000000000#64, 0#64), (0#64, 0xBFF0000000000000#64), (0#64, 0x8000000000000000#64)].zip p.2.2).all fun q =>
        compares 0x0C200C41#32 p.1 q.1.1 q.1.2 q.2 0#32) &&
      compares 0x0C200C41#32 p.1 0x3FF0000000000000#64 0x7FF0000000000001#64 (p.2.2.getD 3 false) 0x10100000#32) = true := by
  decide +kernel

/-- V220 and V221; with Enables.V a signaling NaN takes FPE and leaves the flag. -/
theorem test_compare_traps : [
    vec 0x0C210C47#32 (fpu 0xBFF0000000000000#64 0x0#64 0x0#64 0x0#32) fun t => t.cflag 7#3,
    vec 0x0C220820#32 (fregs [(1#5, 0x7FF8000000000000#64)] (fpu 0x7FF8000000000000#64 0#64 0#64 0#32)) fun t => t.cflag 0#3 == false && t.fcsr0 == 0x0#32,
    vec 0x0C120C41#32 (fpu 0x7F800001#64 0x0#64 0x0#64 0x10#32) fun t => t.fcsr0 == 0x10000010#32 && t.ecode == 0x12#6 && t.cflag 1#3 == false].all id = true := by decide +kernel

/-- V271 to V274, V276 to V289: moves, FSEL, FCSR views and flag moves. -/
theorem test_moves : [
    vec 0x01149841#32 (fpu 0x7FF0000000000001#64 0x0#64 0x0#64 0x0#32) fun t => t.freg 1#5 == 0x7FF0000000000001#64,
    vec 0x0D008C41#32 (fpu 0x123456789ABCDEF0#64 0xFFFFFFFFFFFFFFFE#64 0x0#64 0x0#32) fun t => t.freg 1#5 == 0x123456789ABCDEF0#64,
    vec 0x0D008C41#32 ((fpu 0x123456789ABCDEF0#64 0xFFFFFFFFFFFFFFFE#64 0x0#64 0x0#32).setCflag 1#3 true) fun t => t.freg 1#5 == 0xFFFFFFFFFFFFFFFE#64,
    vec 0x0D038C41#32 ((fpu 0x123456789ABCDEF0#64 0xFFFFFFFFFFFFFFFE#64 0x0#64 0x0#32).setCflag 7#3 true) fun t => t.freg 1#5 == 0xFFFFFFFFFFFFFFFE#64,
    vec 0x0114A8A1#32 (regs [(5#5, 0x3FF00000#32)] (fregs [(1#5, 0xAAAAAAAA00000000#64)] start)) fun t => t.freg 1#5 == 0x3FF0000000000000#64,
    vec 0x0114B444#32 (fpu 0x123456789ABCDEF0#64 0x0#64 0x0#64 0x0#32) fun t => t.reg 4#5 == 0x9ABCDEF0#32,
    vec 0x0114B844#32 (fpu 0x123456789ABCDEF0#64 0x0#64 0x0#64 0x0#32) fun t => t.reg 4#5 == 0x12345678#32,
    vec 0x0114C0A0#32 (regs [(5#5, 0xFFFFFFFF#32)] (start)) fun t => t.fcsr0 == 0x1F1F031F#32 && t.pc == 0x1C000004#32,
    vec 0x0114C0A1#32 (regs [(5#5, 0xFFFFFFFF#32)] (start)) fun t => t.fcsr0 == 0x1F#32,
    vec 0x0114C0A2#32 (regs [(5#5, 0xFFFFFFFF#32)] (fpu 0x0#64 0x0#64 0x0#64 0x31F#32)) fun t => t.fcsr0 == 0x1F1F031F#32,
    vec 0x0114C0A3#32 (regs [(5#5, 0x100#32)] (fpu 0x0#64 0x0#64 0x0#64 0x1010000#32)) fun t => t.fcsr0 == 0x1010100#32,
    vec 0x0114C0A4#32 (start) fun t => t.draws == 1 && t.pc == 0x1C000004#32,
    vec 0x0114CBE4#32 (start) fun t => t.draws == 1 && t.pc == 0x1C000004#32,
    vec 0x0114C804#32 (fpu 0x0#64 0x0#64 0x0#64 0x1F1F031F#32) fun t => t.reg 4#5 == 0x1F1F031F#32,
    vec 0x0114C824#32 (fpu 0x0#64 0x0#64 0x0#64 0x1F1F031F#32) fun t => t.reg 4#5 == 0x1F#32,
    vec 0x0114C844#32 (fpu 0x0#64 0x0#64 0x0#64 0x1F1F031F#32) fun t => t.reg 4#5 == 0x1F1F0000#32,
    vec 0x0114C864#32 (fpu 0x0#64 0x0#64 0x0#64 0x1F1F031F#32) fun t => t.reg 4#5 == 0x300#32,
    vec 0x0114D041#32 ((fpu 0xFFFFFFFFFFFFFFFE#64 0x0#64 0x0#64 0x0#32).setCflag 1#3 true) fun t => t.cflag 1#3 == false,
    vec 0x0114D421#32 ((start).setCflag 1#3 true) fun t => t.freg 1#5 == 0x1#64,
    vec 0x0114D8A1#32 (regs [(5#5, 0x3#32)] (start)) fun t => t.cflag 1#3,
    vec 0x0114D807#32 ((start).setCflag 7#3 true) fun t => t.cflag 7#3 == false,
    vec 0x0114DC24#32 ((start).setCflag 1#3 true) fun t => t.reg 4#5 == 0x1#32].all id = true := by decide +kernel

/-- V275: MOVGR2FR.W. -/
theorem test_movgr2fr : Low (exec (.movgr2frW 1#5 5#5) (regs [(5#5, 0x3F800000#32)] start)) 0x3F800000#32 0#32 := by
  dsimp only [exec]
  refine move_low ?_ ?_ <;> decide +kernel

/-- V291 to V295: branches on a flag, the offset in two parts. -/
theorem test_flag_branch : [
    vec 0x48001020#32 (start) fun t => t.pc == 0x1C000010#32,
    vec 0x48001020#32 ((start).setCflag 1#3 true) fun t => t.pc == 0x1C000004#32,
    vec 0x4BFFF93F#32 ((start).setCflag 1#3 true) fun t => t.pc == 0x1BFFFFF8#32,
    vec 0x48000010#32 (start) fun t => t.pc == 0x1BC00000#32,
    vec 0x4BFFFDEF#32 ((start).setCflag 7#3 true) fun t => t.pc == 0x1C3FFFFC#32].all id = true := by decide +kernel

/-- A word and a doubleword of memory to load (V297, V298). -/
def fpMem : State :=
  { regs [(5#5, 0x1C001000#32)] start with mem := [(0x1C00100A, 0xC0#8), (0x1C00100B, 0x3F#8), (0x1C00100E, 0xF8#8), (0x1C00100F, 0x3F#8)] }

/-- V297: FLD.S. -/
theorem test_fld_s : Low (exec (.fldS 1#5 5#5 8#12) fpMem) 0x3FC00000#32 0#32 := by
  refine ⟨((fpMem.setFregLow 1#5 0x3FC00000#32).advance), ?_, State.fregLow_setFregLow _ _ _, rfl⟩
  have h : fpMem.load (fpMem.effAddr 5#5 8#12) 4 = .ok 0x3FC00000#32 := by decide +kernel
  rw [exec, execFldS, State.fpOnly_ok (by decide), Res.ok_bind, h, Res.ok_bind, State.complete_ok]

/-- V298 to V301: FLD.D, FST.S, FST.D; V290: FPD. -/
theorem test_fp_memory : [
    vec 0x2B4020A1#32 (fpMem) fun t => t.freg 1#5 == 0x3FF800003FC00000#64,
    vec 0x2B8010A1#32 (fregs [(1#5, 0xAAAAAAAA3FC00000#64)] (regs [(5#5, 0x1C001000#32)] start)) fun t => t.mem == [(0x1C001006, 0xC0#8), (0x1C001007, 0x3F#8)],
    vec 0x2BFFE0A1#32 (fregs [(1#5, 0x0123456789ABCDEF#64)] (regs [(5#5, 0x1C001008#32)] start)) fun t => t.mem == [(0x1C001000, 0xEF#8), (0x1C001001, 0xCD#8), (0x1C001002, 0xAB#8), (0x1C001003, 0x89#8), (0x1C001004, 0x67#8), (0x1C001005, 0x45#8), (0x1C001006, 0x23#8), (0x1C001007, 0x01#8)],
    vec 0x2B0008A1#32 (fpMem) fun t => t.ecode == 9#6 && t.csr.badv == 0x1C001002#32 && t.fpr == fpMem.fpr,
    vec 0x01149441#32 ({ State.reset with pc := 0x1C000020#32 }) fun t => t.ecode == 0xF#6 && t.csr.era == 0x1C000020#32 && t.fcsr0 == 0#32].all id = true := by decide +kernel

/-! ## Vectors of privileged instructions, exceptions and interrupts -/

/-- V310 to V325: CSRRD, CSRWR and CSRXCHG. -/
theorem test_csr_access : [
    vec 0x04000004#32 (start) fun t => t.reg 4#5 == 0x8#32,
    vec 0x04008004#32 (start) fun t => t.reg 4#5 == 0x0#32,
    vec 0x04000424#32 (regs [(4#5, 0xFFFFFFFF#32)] (start)) fun t => t.csr.prmd == 0x7#32 && t.reg 4#5 == 0x0#32,
    vec 0x04001424#32 (regs [(4#5, 0xFFFFFFFF#32)] ({ start with csr := { start.csr with estat := 0xB0000#32 } })) fun t => t.csr.estat == 0xB0003#32 && t.reg 4#5 == 0xB0000#32,
    vec 0x04003024#32 (regs [(4#5, 0x1C00017F#32)] (start)) fun t => t.csr.eentry == 0x1C000140#32,
    vec 0x0400C020#32 ({ start with csr := { start.csr with save0 := 0x55#32 } }) fun t => t.csr.save0 == 0x0#32 && t.reg 0#5 == 0x0#32,
    vec 0x04FFFC04#32 (regs [(4#5, 0x1#32)] (start)) fun t => t.reg 4#5 == 0x0#32,
    vec 0x04FFFC24#32 (regs [(4#5, 0x1234#32)] (start)) fun t => t.csr == start.csr && t.reg 4#5 == 0x0#32,
    vec 0x040001AC#32 (regs [(12#5, 0x4#32), (13#5, 0x4#32)] (start)) fun t => t.csr.crmd == 0xC#32 && t.reg 12#5 == 0x8#32,
    vec 0x040000A4#32 (regs [(4#5, 0x0#32), (5#5, 0x4#32)] (mode 0xC#32 start)) fun t => t.csr.crmd == 0x8#32 && t.reg 4#5 == 0xC#32,
    vec 0x0400C084#32 (regs [(4#5, 0xF#32)] ({ start with csr := { start.csr with save0 := 0xF0#32 } })) fun t => t.csr.save0 == 0xFF#32 && t.reg 4#5 == 0xF0#32,
    vec 0x04011024#32 (regs [(4#5, 0x1#32)] ({ start with csr := { start.csr with estat := 0x800#32 } })) fun t => t.csr.estat == 0x0#32 && t.reg 4#5 == 0x0#32,
    vec 0x04018004#32 ({ start with llbit := true }) fun t => t.reg 4#5 == 0x1#32,
    vec 0x04018024#32 (regs [(4#5, 0x2#32)] ({ start with llbit := true })) fun t => t.llbit == false && t.csr.klo == false && t.reg 4#5 == 0x1#32,
    vec 0x04006004#32 ({ start with csr := { start.csr with asid := 0x5#32 } }) fun t => t.reg 4#5 == 0xA0005#32,
    vec 0x04006C04#32 ({ start with csr := { start.csr with badv := 0x80001000#32, pgdl := 0x1000#32, pgdh := 0x2000#32 } }) fun t => t.reg 4#5 == 0x2000#32,
    vec 0x04010424#32 (regs [(4#5, 0x11#32)] (start)) fun t => t.csr.tcfg == 0x11#32 && t.timer == 0x10#32 && t.timerRunning].all id = true := by decide +kernel

/-- The TLB CSRs of V340, with TLBIDX and ESTAT given. -/
def tlbCsrs (tlbidx estat asid : Word) : State :=
  { start with csr := { start.csr with tlbidx := tlbidx, tlbehi := 0x00020000#32, tlbelo0 := 0x00040013#32, tlbelo1 := 0x00041013#32,
                                       asid := asid, estat := estat } }

/-- The entry of V340. -/
def entry : TlbEntry :=
  { e := true, asid := 5#10, g := false, ps := 12#6, vppn := 0x10#19, lo0 := ⟨true, true, 0#2, 1#2, 0x00400#24⟩,
    lo1 := ⟨true, true, 0#2, 1#2, 0x00410#24⟩ }

/-- A state whose TLB holds this entry at index 3. -/
def withEntry (t : TlbEntry) (s : State) : State := { s with tlb := s.tlb.set 3 t }

/-- V340 to V346, V348 to V353: the TLB instructions on entry 3. -/
theorem test_tlb : [
    vec 0x06483000#32 (tlbCsrs 0x0C000003#32 0#32 5#32) fun t => t.tlb == start.tlb.set 3 entry,
    vec 0x06483000#32 (tlbCsrs 0x8C000003#32 0#32 5#32) fun t => (t.tlb.getD 3 entry).e == false,
    vec 0x06483000#32 (tlbCsrs 0x8C000003#32 0x3F0000#32 5#32) fun t => t.tlb == start.tlb.set 3 entry,
    vec 0x06482800#32 (withEntry entry (tlbCsrs 0x8C00001F#32 0#32 5#32)) fun t => t.csr.tlbidx == 0xC000003#32,
    vec 0x06482800#32 (withEntry entry (tlbCsrs 0x0C000003#32 0#32 6#32)) fun t => t.csr.tlbidx == 0x8C000003#32,
    vec 0x06482C00#32 (withEntry entry { start with csr := { start.csr with tlbidx := 0x80000003#32 } }) fun t => t.csr.tlbidx == 0xC000003#32 && t.csr.tlbehi == 0x20000#32 && t.csr.tlbelo0 == 0x40013#32 && t.csr.tlbelo1 == 0x41013#32 && t.csr.asid == 0x5#32,
    vec 0x06482C00#32 (tlbCsrs 0x0C000003#32 0#32 5#32) fun t => t.csr.tlbidx == 0x80000003#32 && t.csr.tlbehi == 0x0#32 && t.csr.tlbelo0 == 0x0#32 && t.csr.tlbelo1 == 0x0#32 && t.csr.asid == 0x0#32,
    vec 0x06498000#32 (withEntry entry start) fun t => t.tlb.all fun e => !e.e,
    vec 0x06498002#32 (withEntry entry start) fun t => (t.tlb.getD 3 entry).e,
    vec 0x06498003#32 (withEntry entry start) fun t => t.tlb.all fun e => !e.e,
    vec 0x064980A4#32 (withEntry entry (regs [(5#5, 0x5#32)] (start))) fun t => t.tlb.all fun e => !e.e,
    vec 0x064998A5#32 (withEntry entry (regs [(5#5, 0x5#32), (6#5, 0x20ABC#32)] (start))) fun t => t.tlb.all fun e => !e.e,
    vec 0x064998A6#32 (withEntry entry (regs [(5#5, 0x7#32), (6#5, 0x20000#32)] (start))) fun t => t.tlb == start.tlb.set 3 entry,
    vec 0x06498007#32 (start) fun t => t.ecode == 0xD#6,
    vec 0x064998BF#32 (start) fun t => t.ecode == 0xD#6,
    vec 0x06498007#32 (mode 0xB#32 start) fun t => t.ecode == 0xE#6].all id = true := by decide +kernel

/-- V347: TLBFILL replaces one entry, a free choice, and nothing else. -/
theorem test_tlbfill : (match exec .tlbfill (tlbCsrs 0x0C000003#32 0#32 5#32) with | .next t => t.draws | _ => 0) = 1 := by
  decide +kernel

/-- V356 to V365: CACOP, ERTN and IDLE. -/
theorem test_cacop_ertn_idle : [
    vec 0x060000A0#32 (start) fun t => t == { start with pc := 0x1C000004#32 },
    vec 0x060000A8#32 (start) fun t => t == { start with pc := 0x1C000004#32 },
    vec 0x060040B1#32 (mode 0x10#32 (regs [(5#5, 0x40002000#32)] (start))) fun t => t.ecode == 0x3F#6 && t.csr.badv == 0x40002010#32,
    refuses 0x060000B8#32 start .cacopUndefined,
    vec 0x060000A0#32 (mode 0xB#32 start) fun t => t.ecode == 0xE#6,
    vec 0x06483800#32 ({ { start with csr := { start.csr with prmd := 0x7#32, era := 0x10000#32, estat := 0xB0000#32 } } with llbit := true }) fun t => t.csr.crmd == 0xF#32 && t.csr.prmd == 0x7#32 && t.csr.era == 0x10000#32 && t.csr.estat == 0xB0000#32 && t.llbit == false && t.pc == 0x10000#32,
    vec 0x06483800#32 ({ start with llbit := true, csr := { start.csr with klo := true } }) fun t => t.llbit && t.csr.klo == false,
    vec 0x06483800#32 ({ start with csr := { start.csr with estat := 0x3F0000#32, prmd := 0x3#32 } }) fun t => t.csr.crmd == 0x13#32,
    vec 0x06483800#32 (mode 0xB#32 start) fun t => t.ecode == 0xE#6,
    vec 0x06488000#32 (start) fun t => t == { start with pc := 0x1C000004#32, idle := true },
    vec 0x0648FFFF#32 (start) fun t => t.idle,
    vec 0x06488000#32 ({ start with hwi := 1#8, csr := { start.csr with ecfg := 4#32 } }) fun t => t.pc == 0x1C000004#32 && !t.idle,
    vec 0x06488000#32 ({ start with hwi := 1#8, csr := { start.csr with ecfg := 8#32 } }) fun t => t.idle,
    vec 0x06488000#32 (mode 0xB#32 start) fun t => t.ecode == 0xE#6].all id = true := by decide +kernel

/-- The state `s` at pc 0x1C000010 with the word there, stepped. -/
def stepVec (w : Word) (s : State) (p : State → Bool) : Bool :=
  match step ({ s with pc := 0x1C000010#32 }.withFetchWord 32 w.toNat) with
  | .next t => p t
  | _ => false

/-- T1 to T5, T11, T12, T16, T17: what an exception records, by one step that also fetches. -/
theorem test_exceptions : [
    stepVec 0x288008A4#32 (regs [(4#5, 0x1#32), (5#5, 0x1C001000#32)] (start)) fun t => t.csr.prmd == 0x0#32 && t.csr.crmd == 0x8#32 && t.csr.era == 0x1C000010#32 && t.csr.estat == 0x90000#32 && t.csr.badv == 0x1C001002#32 && t.pc == 0x1C000100#32 && t.reg 4#5 == 0x1#32,
    stepVec 0x00000000#32 (mode 0xC#32 start) fun t => t.csr.prmd == 0x4#32 && t.csr.crmd == 0x8#32 && t.csr.era == 0x1C000010#32 && t.csr.estat == 0xD0000#32 && t.csr.badv == 0x0#32 && t.pc == 0x1C000100#32,
    stepVec 0xFFFFFFFF#32 (mode 0xC#32 start) fun t => t.csr.estat == 0xD0000#32,
    stepVec 0x04000004#32 (mode 0xB#32 start) fun t => t.csr.prmd == 0x3#32 && t.csr.crmd == 0x8#32 && t.csr.era == 0x1C000010#32 && t.csr.estat == 0xE0000#32,
    stepVec 0x01008C41#32 (State.reset) fun t => t.csr.estat == 0xF0000#32 && t.csr.era == 0x1C000010#32 && t.fcsr0 == 0#32,
    stepVec 0x01068C41#32 (fregs [(2#5, 0x3F800000#64)] { start with fcsr0 := 8#32 }) fun t => t.csr.estat == 0x120000#32 && t.csr.era == 0x1C000010#32 && t.fcsr0 == 0x08000008#32,
    vec 0x288000A4#32 (mode 0x13#32 (regs [(5#5, 0x80000000#32)] (start))) fun t => t.csr.estat == 0x480000#32 && t.csr.badv == 0x80000000#32 && t.csr.prmd == 0x3#32 && t.csr.crmd == 0x10#32,
    vec 0x288000A4#32 (regs [(5#5, 0x40002000#32)] ({ start with csr := { start.csr with crmd := 0x10#32, tlbrentry := 0x1C000200#32 } })) fun t => t.csr.estat == 0x3F0000#32 && t.csr.badv == 0x40002000#32 && t.csr.tlbehi == 0x40002000#32 && t.csr.prmd == 0x0#32 && t.csr.crmd == 0x8#32 && t.csr.era == 0x1C000000#32 && t.pc == 0x1C000200#32,
    vec 0x288008A4#32 (mode 0x10#32 (regs [(5#5, 0x40002000#32)] (start))) fun t => t.ecode == 9#6,
    stepVec 0x2B0008A1#32 (regs [(5#5, 0x1C001000#32)] (State.reset)) fun t => t.ecode == 0xF#6].all id = true := by decide +kernel

/-- T13 to T15 and a hit: PME, PIL, PIS, PIF, PPI through entry 3, and a load through it. -/
theorem test_page_exceptions : [
    vec 0x298010A4#32 (withEntry { entry with g := true, lo0 := ⟨true, false, 0#2, 1#2, 0x00400#24⟩ } (mode 0x10#32 (regs [(5#5, 0x20000#32)] (start)))) fun t => t.ecode == 4#6 && t.mem == [] && t.csr.badv == 0x20004#32 && t.csr.tlbehi == 0x20000#32,
    vec 0x288010A4#32 (withEntry { entry with g := true, lo0 := ⟨false, true, 0#2, 1#2, 0x00400#24⟩ } (mode 0x10#32 (regs [(5#5, 0x20000#32)] (start)))) fun t => t.ecode == 1#6,
    vec 0x298010A4#32 (withEntry { entry with g := true, lo0 := ⟨false, true, 0#2, 1#2, 0x00400#24⟩ } (mode 0x10#32 (regs [(5#5, 0x20000#32)] (start)))) fun t => t.ecode == 2#6,
    match ({ withEntry { entry with g := true, lo0 := ⟨false, true, 0#2, 1#2, 0x00400#24⟩ } (mode 0x10#32 start) with pc := 0x20000#32 }).fetchAndRun with | .next t => t.ecode == 3#6 | _ => false,
    vec 0x288010A4#32 (withEntry { entry with g := true, lo0 := ⟨true, true, 0#2, 1#2, 0x00400#24⟩ } (mode 0x13#32 (regs [(5#5, 0x20000#32)] (start)))) fun t => t.ecode == 7#6,
    vec 0x288010A4#32 ({ withEntry { entry with g := true, lo0 := ⟨true, false, 3#2, 1#2, 0x00400#24⟩ } (mode 0x13#32 (regs [(5#5, 0x20000#32)] (start))) with mem := [(0x400004, 9#8)] }) fun t => t.reg 4#5 == 0x9#32].all id = true := by decide +kernel

/-- T6 to T8, T10: SYSCALL from user mode, a software interrupt by CSRWR then taken, V68 then ADEF. -/
theorem test_interrupt : [
    vec 0x002B0000#32 ({ mode 0x17#32 start with pc := 0x10000#32 }) fun t => t.csr.prmd == 0x7#32 && t.csr.crmd == 0x10#32 && t.csr.era == 0x10000#32 && t.csr.estat == 0xB0000#32 && t.pc == 0x1C000100#32,
    stepVec 0x04001424#32 (regs [(4#5, 0x1#32)] ({ start with csr := { start.csr with crmd := 0xC#32, ecfg := 0x1#32 } })) fun t => t.csr.estat == 0x1#32 && t.reg 4#5 == 0x0#32 && t.pc == 0x1C000014#32 &&
      (match step t with
       | .next u => u.csr.prmd == 4#32 && u.csr.crmd == 8#32 && u.csr.era == 0x1C000014#32 && u.csr.estat == 1#32 && u.pc == 0x1C000100#32
       | _ => false),
    stepVec 0x00150000#32 ({ start with csr := { start.csr with crmd := 0xC#32, ecfg := 0x0#32, estat := 0x1#32 } }) fun t => t.pc == 0x1C000014#32,
    stepVec 0x00150000#32 ({ start with csr := { start.csr with crmd := 0x8#32, ecfg := 0x1#32, estat := 0x1#32 } }) fun t => t.pc == 0x1C000014#32,
    vec 0x4C000020#32 (regs [(1#5, 0x1C000102#32)] (start)) fun t => t.pc == 0x1C000102#32,
    match ({ start with pc := 0x1C000102#32 }).fetchAndRun with | .next t => t.csr.estat == 0x80000#32 && t.csr.era == 0x1C000102#32 && t.csr.badv == 0x1C000102#32 | _ => false].all id = true := by decide +kernel

/-- Z1 to Z5 and Z7: what reset leaves; its memory is canonical. -/
theorem test_reset :
    State.reset.pc = 0x1C000000#32 ∧ State.reset.csr.crmd = 8#32 ∧ State.reset.translate 0x1C000000#32 .fetch = .ok (0x1C000000#36, 0#2) ∧
    State.reset.fpe = false ∧ State.reset.stableCounter = 0#64 ∧ Memory.wf State.reset.mem = true := by decide +kernel

/-- Section 2.6 of spec/20_memory.md: the external agent, then this core store at 0x1C001000; before an IBAR a fetch there may miss
both, and after it neither (R102, R104). -/
def storedTwice : State :=
  match execStW 4#5 5#5 0#12 ((atBytes 0x1C001000#32).externalStore (0x1C001000#36, 0xAA#8)) with
  | .next t => t
  | _ => start

theorem test_ibar_after_stores :
    (0x007FFF80#32 ∈ storedTwice.fetchable 0x1C001000 ∧ 0x12345678#32 ∈ storedTwice.fetchable 0x1C001000) ∧
    (match execIbar 0#15 storedTwice with
     | .next t => (t.fetchable 0x1C001000).all (· == 0x12345678#32)
     | _ => false) = true := by decide +kernel

/-- The start state on a platform with PALEN 36 and a 16-bit timer (R7). -/
def widePlatform (s : State) : State := { s with plat := { s.plat with palenOver32 := 4, timerBits := 16 } }

/-- TLBELO0 has PPN in bits PALEN-5:8 and TCFG InitVal in bits TIMER_BITS-1:2 (R54, R57); a page number above 2^20 is translated
under PALEN 36 and cut to PALEN 32 (R92). -/
theorem test_parameters : [
    vec 0x04004824#32 (regs [(4#5, 0xFFFFFFFF#32)] start) fun t => t.csr.tlbelo0 == 0x0FFFFF7F#32,
    vec 0x04004824#32 (widePlatform (regs [(4#5, 0xFFFFFFFF#32)] start)) fun t => t.csr.tlbelo0 == 0xFFFFFF7F#32,
    vec 0x04010424#32 (widePlatform (regs [(4#5, 0xFFFFFFFF#32)] start)) fun t => t.csr.tcfg == 0xFFFF#32 && t.timer == 0xFFFC#32,
    ({ entry with lo0 := ⟨true, true, 0#2, 1#2, 0xABCDEF#24⟩ }).translate 36 0#2 0x20004#32 .load == .ok (0xABCDEF004#36, 1#2),
    ({ entry with lo0 := ⟨true, true, 0#2, 1#2, 0xABCDEF#24⟩ }).translate 32 0#2 0x20004#32 .load == .ok (0xBCDEF004#36, 1#2)].all
    id = true := by decide +kernel

/-! ## Witnesses: for every obligation with hypotheses, a state and operands that meet them, clause by clause -/

/-- The start state with x[5] given: every address is its own physical address. -/
def base (v : Word) : State := regs [(5#5, v)] start

theorem readable_of {s : State} {va : Word} {k : Access} {n pa : Nat} (h : va.toNat % n = 0 ∧
    s.translate va k = .ok (BitVec.ofNat 36 pa, 0#2) ∧ pa < 2 ^ 36 ∧ s.plat.allows pa n = .ok ()) : Readable s va k n pa :=
  ⟨h.1, ⟨_, h.2.1⟩, h.2.2.1, h.2.2.2⟩

/-- No exception traps when none is enabled. -/
theorem noTrap_of_zero {s : State} (h : s.fpEnables = 0#5) (e : FpFlags) : s.NoTrap e := by simp [State.NoTrap, h]

theorem witness_DivisionResults :
    (regs [(5#5, 0x80000000#32), (6#5, 0xFFFFFFFF#32)] start).reg 6#5 ≠ 0#32 := by decide +kernel

theorem witness_DivisionByZeroCompletes : (regs [(5#5, 7#32)] start).reg 6#5 = 0#32 := by decide +kernel

/-- The last byte, halfword and word of memory; the address wraps from the base. -/
theorem witness_IntegerLoadResults :
    Readable (base 0#32) (BitVec.ofInt 32 (((base 0#32).reg 5#5).toInt + (0xFFF#12).toInt)) .load 1 0xFFFFFFFF ∧
    Readable (base 0#32) (BitVec.ofInt 32 (((base 0#32).reg 5#5).toInt + (0xFFE#12).toInt)) .load 2 0xFFFFFFFE ∧
    Readable (base 0#32) (BitVec.ofInt 32 (((base 0#32).reg 5#5).toInt + (0xFFC#12).toInt)) .load 4 0xFFFFFFFC := by
  and_intros <;> exact readable_of (by decide +kernel)

theorem witness_IntegerStoreResults : Memory.wf (base 0#32).mem = true ∧
    Writable (base 0#32) ((base 0#32).effAddr 5#5 0xFFF#12) 1 0xFFFFFFFF ∧
    Writable (base 0#32) ((base 0#32).effAddr 5#5 0xFFE#12) 2 0xFFFFFFFE ∧
    Writable (base 0#32) ((base 0#32).effAddr 5#5 0xFFC#12) 4 0xFFFFFFFC :=
  ⟨by decide +kernel, readable_of (by decide +kernel), readable_of (by decide +kernel), readable_of (by decide +kernel)⟩

theorem witness_FpLoadAndStoreResults : (base 0#32).fpe = true ∧ Memory.wf (base 0#32).mem = true ∧
    Readable (base 0#32) ((base 0#32).effAddr 5#5 0xFFC#12) .load 4 0xFFFFFFFC ∧
    Readable (base 0#32) ((base 0#32).effAddr 5#5 0xFF8#12) .load 8 0xFFFFFFF8 ∧
    Writable (base 0#32) ((base 0#32).effAddr 5#5 0xFFC#12) 4 0xFFFFFFFC ∧
    Writable (base 0#32) ((base 0#32).effAddr 5#5 0xFF8#12) 8 0xFFFFFFF8 :=
  ⟨by decide +kernel, by decide +kernel, readable_of (by decide +kernel), readable_of (by decide +kernel),
    readable_of (by decide +kernel), readable_of (by decide +kernel)⟩

/-- The first and the last misaligned address of each width, with floating point off and on. -/
theorem witness_MisalignedAccessTraps : State.reset.fpe = false ∧ (State.reset.effAddr 0#5 1#12).toNat % 2 ≠ 0 ∧
    (base 0#32).fpe = true ∧
    ((base 0#32).effAddr 5#5 1#12).toNat % 2 ≠ 0 ∧ ((base 0#32).effAddr 5#5 3#12).toNat % 4 ≠ 0 ∧
    ((base 0#32).effAddr 5#5 4#12).toNat % 8 ≠ 0 ∧ ((base 0#32).effAddr 5#5 0xFFF#12).toNat % 8 ≠ 0 ∧
    ((base 3#32).llAddrOf 5#5 0x3FFF#14).toNat % 4 ≠ 0 := by decide +kernel

/-- Mapped kernel mode with no window and an empty TLB. -/
def mapped (v : Word) : State := mode 0x10#32 (base v)

/-- A memory map with RAM up to 0x1000, a device up to 0x2000, and nothing above. -/
def holed (v : Word) : State :=
  { base v with plat := { Platform.default with memMap := [⟨0, 0x1000, .ram⟩, ⟨0x1000, 0x1000, .device⟩] } }

theorem witness_TranslationExceptionsAreTaken : (mode 0x10#32 State.reset).fpe = false ∧
    (mode 0x10#32 State.reset).translate ((mode 0x10#32 State.reset).effAddr 0#5 8#12) .load = .raise .tlbr 8#32 ∧
    (mapped 0x2000#32).fpe = true ∧
    ((mapped 0x2000#32).effAddr 5#5 8#12).toNat % 8 = 0 ∧
    (mapped 0x2000#32).translate ((mapped 0x2000#32).effAddr 5#5 8#12) .load = .raise .tlbr 0x2008#32 ∧
    (mapped 0x2000#32).translate ((mapped 0x2000#32).effAddr 5#5 8#12) .store = .raise .tlbr 0x2008#32 ∧
    ((mapped 0x2000#32).llAddrOf 5#5 0x3FFF#14).toNat % 4 = 0 ∧
    (mapped 0x2000#32).translate ((mapped 0x2000#32).llAddrOf 5#5 0x3FFF#14) .load = .raise .tlbr 0x1FFC#32 ∧
    (mapped 0x2000#32).translate ((mapped 0x2000#32).llAddrOf 5#5 0x3FFF#14) .store = .raise .tlbr 0x1FFC#32 ∧
    (mapped 0x2000#32).plv = 0#2 ∧ (0x12#5).extractLsb' 3 2 = 2#2 ∧ (0x12#5).toNat % 8 ≤ 2 := by decide +kernel

/-- Stops: an undefined mode, and the bytes of an access at and beyond the end of the RAM and of the device. -/
theorem witness_TranslationExceptionsAreTaken_stops :
    (mode 0#32 (base 8#32)).translate 8#32 .load = .refuse .translationModeUndefined ∧
    (holed 0x1000#32).translate 0x1000#32 .load = .ok (0x1000#36, 0#2) ∧
    (holed 0#32).plat.kindAt 0xFFF = some .ram ∧ (holed 0#32).plat.kindAt 0x1000 = some .device ∧
    (holed 0#32).plat.kindAt 0x1FFF = some .device ∧ (holed 0#32).plat.kindAt 0x2000 = none ∧
    ({ base 0xFFC#32 with plat := { Platform.default with memMap := [⟨0, 0xFFF, .ram⟩] } }).plat.kindAt (0xFFC + 3) = none := by
  decide +kernel

/-- A word store with no store unseen, and one after a store of the external agent; records of both and of this core alone. -/
theorem witness_HintsBarriersAndFetchVisibility : Memory.wf (atBytes 0x1C001000#32).mem = true ∧
    Writable (atBytes 0x1C001000#32) ((atBytes 0x1C001000#32).effAddr 5#5 0#12) 4 0x1C001000 ∧ (atBytes 0x1C001000#32).unseen = [] ∧
    (∃ t u, exec (.stW 4#5 5#5 0#12) (atBytes 0x1C001000#32) = .next t ∧ exec (.ibar 0#15) t = .next u) ∧
    storedTwice.unseen.map (·.own) = [true, false] ∧ (∀ r ∈ ({ start with unseen := [⟨true, [(0, 1#8)]⟩] }).unseen, r.own = true) ∧
    start.unseen = [] ∧ start.plat.kindAt (0x3#36).toNat = some .ram ∧ 0 ≤ (0x3#36).toNat ∧ (0x3#36).toNat < 0 + 4 := by
  refine ⟨by decide +kernel, readable_of (by decide +kernel), rfl, ?_, by decide +kernel, by decide +kernel, rfl, by decide +kernel,
    by decide, by decide⟩
  have h : (match exec (.stW 4#5 5#5 0#12) (atBytes 0x1C001000#32) with | .next _ => true | _ => false) = true := by decide +kernel
  match exec (.stW 4#5 5#5 0#12) (atBytes 0x1C001000#32), h with
  | .next t, _ => exact ⟨t, _, rfl, rfl⟩

theorem witness_LoadLinkedResult :
    (BitVec.ofInt 32 ((cached.reg 5#5).toInt + 4 * (0#14).toInt)).toNat % 4 = 0 ∧
    cached.translate 0x1C001000#32 .load = .ok (0x1C001000#36, 1#2) ∧ cached.plat.allows 0x1C001000 4 = .ok () := by
  decide +kernel

theorem witness_StoreConditionalResult : Memory.wf linked.mem = true ∧ (linked.llAddrOf 5#5 0#14).toNat % 4 = 0 ∧
    linked.translate (linked.llAddrOf 5#5 0#14) .store = .ok (0x1C001000#36, 1#2) ∧ linked.llbit = true ∧
    linked.llAddr = 0x1C001000#36 ∧ linked.plat.allows 0x1C001000 4 = .ok () ∧
    cached.translate (cached.llAddrOf 5#5 0#14) .store = .ok (0x1C001000#36, 1#2) ∧ cached.llbit = false := by decide +kernel

theorem witness_SpecifiedRefusals_memory :
    (start.llAddrOf 5#5 0#14).toNat % 4 = 0 ∧ start.translate (start.llAddrOf 5#5 0#14) .load = .ok (0#36, 0#2) ∧
    start.translate (start.llAddrOf 5#5 0#14) .store = .ok (0#36, 0#2) ∧
    linked.translate (linked.llAddrOf 5#5 1#14) .store = .ok (0x1C001004#36, 1#2) ∧ linked.llbit = true ∧
    0x1C001004#36 ≠ linked.llAddr := by decide +kernel

/-- PLV 0 with CACOP 0x18 and 3, the indices 31 and 32, the page sizes 11 and 21, x[5] = 2^10, and the levels 1 and 2. -/
theorem witness_SpecifiedRefusals_privileged : start.plv = 0#2 ∧ (0x18#5).extractLsb' 3 2 = 3#2 ∧ 2 < (3#5).toNat % 8 ∧
    ({ tlbCsrs 0x00000003#32 0#32 0#32 with tlb := [entry, entry, entry] }).tlb.length ≤
      ({ tlbCsrs 0x00000003#32 0#32 0#32 with tlb := [entry, entry, entry] }).tlbIndex ∧
    (tlbCsrs 0x0B00001F#32 0#32 0#32).tlbNe = false ∧ (tlbCsrs 0x0B00001F#32 0#32 0#32).tlbPs ≠ 12#6 ∧
    (tlbCsrs 0x0B00001F#32 0#32 0#32).tlbPs ∉ (tlbCsrs 0x0B00001F#32 0#32 0#32).plat.largePageSizes ∧
    (tlbCsrs 0x0B00001F#32 0#32 0#32).tlbIndex < (tlbCsrs 0x0B00001F#32 0#32 0#32).tlb.length ∧
    (tlbCsrs 0x95000000#32 0x3F0000#32 0#32).ecode = 0x3F#6 ∧ (tlbCsrs 0x95000000#32 0x3F0000#32 0#32).tlbPs ≠ 12#6 ∧
    4 ≤ (4#5).toNat ∧ (6#5).toNat ≤ 6 ∧ 2 ^ 10 ≤ ((base 0x400#32).reg 5#5).toNat ∧
    ({ start with csr := { start.csr with prmd := 1#32 } }).pplv = 1#2 ∧
    ({ start with csr := { start.csr with prmd := 2#32 } }).pplv = 2#2 ∧
    ((base 1#32).reg 5#5).extractLsb' 0 2 = 1#2 ∧ ((base 2#32).reg 5#5).extractLsb' 0 2 = 2#2 ∧
    ((start.csr.crmd &&& ~~~3#32) ||| (2#32 &&& 3#32)).extractLsb' 0 2 = 2#2 := by decide +kernel

theorem witness_NarrowReadAfterWideWrite :
    Memory.wf bytes = true ∧ 0xFFFFFFFFC + 4 ≤ 2 ^ 36 ∧ 0xFFFFFFFF8 + 8 ≤ 2 ^ 36 := by decide +kernel

theorem witness_ReturnFromExceptionResult : start.plv = 0#2 ∧ start.pplv = 0#2 ∧
    ({ start with csr := { start.csr with prmd := 3#32, estat := 0x3F0000#32 } }).pplv = 3#2 := by decide +kernel

/-- A line (the hardware line 2, the inter-processor line 12) that is pending and enabled. -/
def pendingLine (hwi : BitVec 8) (ipi : Bool) (ecfg crmd : Word) : State :=
  { start with hwi := hwi, ipi := ipi, csr := { start.csr with ecfg := ecfg, crmd := crmd } }

/-- IDLE beside a line that is not enabled (line 12) and one that is (line 2); pending and enabled with and without CRMD.IE;
waiting with a line that is not enabled. -/
theorem witness_InterruptsAndTheWaitOfIdle : start.env = [] ∧
    (pendingLine 1#8 false 0x1000#32 8#32).plv = 0#2 ∧ (pendingLine 1#8 false 4#32 8#32).plv = 0#2 ∧
    (¬ ∃ i < 13, ((pendingLine 1#8 false 0x1000#32 8#32).readCsr .estat).getLsbD i = true ∧
      (pendingLine 1#8 false 0x1000#32 8#32).csr.ecfg.getLsbD i = true) ∧
    (∃ i < 13, ((pendingLine 1#8 false 4#32 8#32).readCsr .estat).getLsbD i = true ∧
      (pendingLine 1#8 false 4#32 8#32).csr.ecfg.getLsbD i = true) ∧
    (∃ i < 13, ((pendingLine 1#8 false 4#32 8#32).input.readCsr .estat).getLsbD i = true ∧
      (pendingLine 1#8 false 4#32 8#32).input.csr.ecfg.getLsbD i = true) ∧
    (pendingLine 1#8 false 4#32 8#32).input.ie = false ∧
    (∃ i < 13, ((pendingLine 0#8 true 0x1000#32 0xC#32).input.readCsr .estat).getLsbD i = true ∧
      (pendingLine 0#8 true 0x1000#32 0xC#32).input.csr.ecfg.getLsbD i = true) ∧
    (pendingLine 0#8 true 0x1000#32 0xC#32).input.ie = true ∧
    ({ pendingLine 1#8 false 0x1000#32 0xC#32 with idle := true }).input.idle = true ∧
    (¬ ∃ i < 13, (({ pendingLine 1#8 false 0x1000#32 0xC#32 with idle := true }).input.readCsr .estat).getLsbD i = true ∧
      ({ pendingLine 1#8 false 0x1000#32 0xC#32 with idle := true }).input.csr.ecfg.getLsbD i = true) := by
  decide +kernel

theorem witness_FetchAndDecodeExceptions :
    ({ start with pc := 0x1C000003#32 }).pc.toNat % 4 ≠ 0 ∧ (mapped 0#32).pc.toNat % 4 = 0 ∧
    (mapped 0#32).translate (mapped 0#32).pc .fetch = .raise .tlbr 0x1C000000#32 ∧
    start.fetch = .ok (0#32, start) ∧ decodeWord 0#32 = .reserved ∧
    (start.withFetchWord 32 0x6085).fetch = .ok (0x6085#32, start.withFetchWord 32 0x6085) ∧ decodeWord 0x6085#32 = .unspecified ∧
    (start.withFetchWord 32 0x150000).fetch = .ok (0x150000#32, start.withFetchWord 32 0x150000) ∧
    decodeWord 0x150000#32 = .instr (.or 0#5 0#5 0#5) := by decide +kernel

/-- Stops of a fetch: an undefined mode, and a word at the end of the RAM, at a device and beyond it. -/
theorem witness_FetchAndDecodeExceptions_stops :
    (mode 0#32 start).translate (mode 0#32 start).pc .fetch = .refuse .translationModeUndefined ∧
    ({ holed 0#32 with pc := 0x1000#32 }).translate 0x1000#32 .fetch = .ok (0x1000#36, 0#2) ∧
    (holed 0#32).plat.kindAt 0x1000 = some .device ∧ (holed 0#32).plat.kindAt 0x2000 = none ∧
    (holed 0#32).plat.kindAt (0xFFC + 3) = some .ram := by decide +kernel

/-- ADD.W x4, x5, x6 at the reset pc. -/
def placed : State := start.withFetchWord 32 0x001018A4

theorem witness_StepRunsDecodedInstruction : placed.input.idle = false ∧ placed.input.ie = false ∧
    Readable placed.input placed.input.pc .fetch 4 0x1C000000 ∧
    (∀ w ∈ placed.input.fetchable 0x1C000000, w = Memory.byte placed.input.mem 0x1C000003 ++ Memory.byte placed.input.mem 0x1C000002 ++
      Memory.byte placed.input.mem 0x1C000001 ++ Memory.byte placed.input.mem 0x1C000000) ∧
    decodeBytes [Memory.byte placed.input.mem 0x1C000000, Memory.byte placed.input.mem 0x1C000001,
      Memory.byte placed.input.mem 0x1C000002, Memory.byte placed.input.mem 0x1C000003] = some (.instr (.addW 4#5 5#5 6#5), []) ∧
    Instr.wellFormed (.addW 4#5 5#5 6#5) = true := by
  refine ⟨by decide +kernel, by decide +kernel, readable_of (by decide +kernel), ?_, by decide +kernel, by decide⟩
  intro w hw
  have h : (placed.input.fetchable 0x1C000000).all (· == 0x001018A4#32) = true := by decide +kernel
  rw [beq_iff_eq.mp (List.all_eq_true.mp h w hw)]
  decide +kernel

theorem witness_PrivilegedInUserModeTraps : (mode 0xB#32 start).plv ≠ 0#2 ∧
    (privilegedInstructions 4#5 5#5 6#5 0#14 0#5 0#12 0#15).length = 11 := by decide +kernel

theorem witness_CsrReadValues : start.plv = 0#2 ∧ 0x3FFF#14 ∉ csrNumbers ∧ 0x3#14 ∉ csrNumbers := by decide +kernel

theorem witness_CsrWriteReplacesMaskedBits : start.plv = 0#2 ∧ start.indexBits = 5 ∧
    (0x10#14, 0xBF00001F#32) ∈ plainCsrs start.indexBits start.plat.palen ∧
    (0x12#14, 0x0FFFFF7F#32) ∈ plainCsrs start.indexBits start.plat.palen ∧ (0x12#14, 0xFFFFFF7F#32) ∈ plainCsrs 5 (widePlatform start).plat.palen := by decide +kernel

/-- x[4] the value and x[5] the mask. -/
def valueMask (v m : Word) : State := regs [(4#5, v), (5#5, m)] start

theorem witness_SpecialCsrWrites : (valueMask 3#32 3#32).plv = 0#2 ∧
    (((valueMask 3#32 3#32).csr.crmd &&& ~~~(3#32 &&& 0x1FF#32)) ||| (3#32 &&& 3#32 &&& 0x1FF#32)).extractLsb' 0 2 = 3#2 ∧
    (valueMask 0#32 0#32).reg 5#5 = 0#32 ∧ (valueMask 1#32 1#32).reg 5#5 ≠ 0#32 ∧
    (let w := 1#32 &&& tcfgFields start.plat.timerBits
     ((start.csr.tcfg &&& ~~~w) ||| (1#32 &&& w)).getLsbD 0 = true) ∧
    (let w := 0xFFFFFFFF#32 &&& tcfgFields (widePlatform start).plat.timerBits
     ((start.csr.tcfg &&& ~~~w) ||| (0xFFFF0000#32 &&& w)).getLsbD 0 = false) ∧
    (1#32 &&& 0xFFFFFFFF#32).getLsbD 0 = true ∧ (1#32 &&& 2#32).getLsbD 0 = false ∧ 0x8#14 ∉ csrNumbers := by decide +kernel

theorem witness_CacheOperationsOnlyAdvance : start.plv = 0#2 ∧ (0xA#5).toNat % 8 ≤ 2 ∧ (0xA#5).toNat / 8 ≤ 1 ∧
    (0x10#5).toNat / 8 = 2 ∧ start.translate (BitVec.ofInt 32 ((start.reg 5#5).toInt + (0x800#12).toInt)) .load =
      .ok (0xFFFFF800#36, 0#2) := by decide +kernel

/-- One entry at the last index, ASID 5, the virtual page pair 0x10; and the same entry also at index 0. -/
def oneEntry (t : TlbEntry) (crmd : Word) : State :=
  { mode crmd (tlbCsrs 0x0C000000#32 0#32 5#32) with
    tlb := List.replicate 31 TlbEntry.zero ++ [t], csr := { (tlbCsrs 0x0C000000#32 0#32 5#32).csr with crmd := crmd } }
def twoEntries : State := { oneEntry entry 8#32 with tlb := entry :: List.replicate 30 TlbEntry.zero ++ [entry] }

theorem entry_matches {t : TlbEntry} (h : t.e = true ∧ t.asid = 5#10 ∧ t.vppn = 0x10#19) : t.Matches 5#10 0x10#19 :=
  ⟨h.1, .inr h.2.1, by rw [h.2.2]⟩

/-- An entry of the reset TLB matches nothing. -/
theorem zero_matches {n j : Nat} {e : TlbEntry} {a : BitVec 10} {v : BitVec 19}
    (h : (List.replicate n TlbEntry.zero)[j]? = some e) (hm : e.Matches a v) : False := by
  rw [List.eq_of_mem_replicate (List.mem_of_getElem? h)] at hm
  exact Bool.noConfusion hm.1

/-- Only the last entry of `oneEntry` matches anything. -/
theorem oneEntry_only {t : TlbEntry} {crmd : Word} {j : Nat} {e : TlbEntry} {a : BitVec 10} {v : BitVec 19}
    (h : (oneEntry t crmd).tlb[j]? = some e) (hm : e.Matches a v) : j = 31 := by
  by_contra hj
  have hl : j < 32 := (List.getElem?_eq_some_iff.mp h).1
  rw [show (oneEntry t crmd).tlb = List.replicate 31 TlbEntry.zero ++ [t] from rfl,
    List.getElem?_append_left (by rw [List.length_replicate]; omega)] at h
  exact zero_matches h hm

theorem witness_TlbSearchResult : (oneEntry entry 8#32).plv = 0#2 ∧ (oneEntry entry 8#32).tlb.length ≤ 2 ^ 16 ∧
    (∃ e : TlbEntry, (oneEntry entry 8#32).tlb[31]? = some e ∧ e.Matches (oneEntry entry 8#32).asid 0x10#19) ∧
    (∀ j : Nat, (∃ e : TlbEntry, (oneEntry entry 8#32).tlb[j]? = some e ∧ e.Matches (oneEntry entry 8#32).asid 0x10#19) → j = 31) ∧
    (oneEntry entry 8#32).csr.tlbehi.extractLsb' 13 19 = 0x10#19 ∧
    (∃ e : TlbEntry, twoEntries.tlb[0]? = some e ∧ e.Matches twoEntries.asid (twoEntries.csr.tlbehi.extractLsb' 13 19)) ∧
    (∃ e : TlbEntry, twoEntries.tlb[31]? = some e ∧ e.Matches twoEntries.asid (twoEntries.csr.tlbehi.extractLsb' 13 19)) ∧
    (∀ i : Nat, ¬ ∃ e : TlbEntry, start.tlb[i]? = some e ∧ e.Matches start.asid (start.csr.tlbehi.extractLsb' 13 19)) :=
  ⟨by decide +kernel, by decide +kernel, ⟨entry, by decide +kernel, entry_matches ⟨rfl, rfl, rfl⟩⟩,
    fun _ ⟨_, h, hm⟩ => oneEntry_only h hm, by decide +kernel, ⟨entry, by decide +kernel, entry_matches ⟨rfl, rfl, rfl⟩⟩,
    ⟨entry, by decide +kernel, entry_matches ⟨rfl, rfl, rfl⟩⟩, fun _ ⟨_, h, hm⟩ => zero_matches h hm⟩

theorem witness_TlbReadResult : start.plv = 0#2 ∧
    start.tlb[(start.csr.tlbidx &&& lowMask start.indexBits).toNat]? = some TlbEntry.zero ∧
    (withEntry entry (tlbCsrs 3#32 0#32 0#32)).tlb[
      ((tlbCsrs 3#32 0#32 0#32).csr.tlbidx &&& lowMask (withEntry entry (tlbCsrs 3#32 0#32 0#32)).indexBits).toNat]? = some entry := by
  decide +kernel

theorem witness_TlbWriteAndFillResult : let s := tlbCsrs 0x0C00001F#32 0#32 5#32
    s.plv = 0#2 ∧ (entry.e = true ↔ s.csr.estat.extractLsb' 16 6 = 0x3F#6 ∨ s.csr.tlbidx.getLsbD 31 = false) ∧
    entry.vppn.toNat = s.csr.tlbehi.toNat / 2 ^ 13 ∧ entry.ps = s.csr.tlbidx.extractLsb' 24 6 ∧
    entry.asid = s.csr.asid.extractLsb' 0 10 ∧ entry.g = (s.csr.tlbelo0.getLsbD 6 && s.csr.tlbelo1.getLsbD 6) ∧
    ShowsPage (s.csr.tlbelo0 &&& tlbeloFields s.plat.palen) s.plat.palen entry.lo0 (s.csr.tlbelo0.getLsbD 6) ∧
    ShowsPage (s.csr.tlbelo1 &&& tlbeloFields s.plat.palen) s.plat.palen entry.lo1 (s.csr.tlbelo1.getLsbD 6) ∧
    entry.lo0.ppn.toNat < 2 ^ (s.plat.palen - 12) ∧ entry.lo1.ppn.toNat < 2 ^ (s.plat.palen - 12) ∧
    (entry.e = true → entry.ps = 12#6 ∨ entry.ps ∈ s.plat.largePageSizes) ∧
    31 = (s.csr.tlbidx &&& lowMask s.indexBits).toNat ∧ 31 < s.tlb.length := by
  refine ⟨?_, ?_, ?_, ?_, ?_, ?_, ⟨?_, ?_, ?_, ?_, ?_, ?_, ?_⟩, ⟨?_, ?_, ?_, ?_, ?_, ?_, ?_⟩, ?_, ?_, ?_, ?_, ?_⟩ <;> decide +kernel

theorem witness_TlbInvalidateResult : start.plv = 0#2 ∧ (0#5).toNat ≤ 6 ∧ (6#5).toNat ≤ 6 ∧ 4 ≤ (6#5).toNat ∧
    ((base 0x3FF#32).reg 5#5).toNat < 2 ^ 10 ∧ 7 ≤ (7#5).toNat := by decide +kernel

/-- Kernel (0x10) and user (0x13) mapped mode with window 0 on segment 4 and window 1 on segment 5 for the other levels. -/
def windows (crmd : Word) : State :=
  { start with csr := { start.csr with crmd := crmd, dmw0 := 0x82000019#32, dmw1 := 0xA4000029#32 } }

theorem witness_TranslationModesAndWindows :
    start.da = true ∧ start.pg = false ∧ (windows 0x10#32).da = false ∧ (windows 0x10#32).pg = true ∧
    (0x9FFFFFFF#32).toNat / 2 ^ 29 = (windows 0x10#32).csr.dmw0.toNat / 2 ^ 29 ∧ (windows 0x10#32).csr.dmw0.getLsbD 0 = true ∧
    (0xA0000000#32).toNat / 2 ^ 29 ≠ (windows 0x13#32).csr.dmw0.toNat / 2 ^ 29 ∧
    (0xA0000000#32).toNat / 2 ^ 29 = (windows 0x13#32).csr.dmw1.toNat / 2 ^ 29 ∧ (windows 0x13#32).csr.dmw1.getLsbD 3 = true ∧
    (windows 0x13#32).plv = 3#2 ∧ (windows 0x13#32).plat.adeCheck = true ∧ 2 ^ 31 ≤ (0xC0000000#32).toNat ∧
    (0x7FFFFFFF#32).toNat < 2 ^ 31 ∧ (mode 0x18#32 start).da = (mode 0x18#32 start).pg ∧
    start.mapAddress 0#32 .load = .ok (0#36, 0#2) ∧ (windows 0x13#32).mapAddress 0xA0000000#32 .load = .ok (0x40000000#36, 2#2) ∧
    (windows 0x13#32).mapAddress 0xC0000000#32 .fetch = .raise .adef 0xC0000000#32 := by decide +kernel

/-- The entry with its first page replaced. -/
def withPage (v d : Bool) (plv : BitVec 2) : TlbEntry := { entry with lo0 := ⟨v, d, plv, 1#2, 0x00400#24⟩ }

/-- No entry; the one entry at 0x20FFF with page sizes 12 and 31 (where 0x20FFF is again in its first page), and a first page
that is invalid, of a higher level, not dirty, or good; two entries. -/
theorem witness_TlbTranslationResult :
    (∀ (i : Nat) (e : TlbEntry), ¬ (start.tlb[i]? = some e ∧ e.Matches start.asid ((0#32).extractLsb' 13 19))) ∧
    (∀ (t : TlbEntry) (crmd : Word) (j : Nat) (e : TlbEntry), (oneEntry t crmd).tlb[j]? = some e ∧
      e.Matches (oneEntry t crmd).asid ((0x20FFF#32).extractLsb' 13 19) → j = 31) ∧
    (∀ t ∈ [withPage false true 0#2, withPage true true 0#2, withPage true false 3#2, { withPage true true 3#2 with ps := 31#6 }],
      ∀ crmd, (oneEntry t crmd).tlb[31]? = some t ∧ t.Matches (oneEntry t crmd).asid ((0x20FFF#32).extractLsb' 13 19) ∧
      12 ≤ t.ps.toNat ∧ t.ps.toNat ≤ 31 ∧ (0x20FFF#32).getLsbD t.ps.toNat = false) ∧
    (withPage false true 0#2).lo0.v = false ∧
    (withPage true true 0#2).lo0.v = true ∧ (withPage true true 0#2).lo0.plv.toNat < (oneEntry entry 0x13#32).plv.toNat ∧
    (withPage true false 3#2).lo0.d = false ∧ (oneEntry entry 0x13#32).plv.toNat ≤ (withPage true false 3#2).lo0.plv.toNat ∧
    (withPage true true 3#2).lo0.d = true ∧
    twoEntries.tlb[0]? = some entry ∧ twoEntries.tlb[31]? = some entry ∧ entry.Matches twoEntries.asid 0x10#19 := by
  refine ⟨fun _ _ ⟨h, hm⟩ => zero_matches h hm, fun _ _ _ _ h => oneEntry_only h.1 h.2, ?_, by decide, by decide, by decide +kernel,
    by decide, by decide +kernel, by decide, by decide +kernel, by decide +kernel, entry_matches ⟨rfl, rfl, rfl⟩⟩
  intro t ht crmd
  refine ⟨rfl, entry_matches ?_, ?_⟩ <;> fin_cases ht <;> decide

/-- No exception is enabled in `start`; with all enabled, an exact sum, a quiet NaN, an ordered comparison do not trap. -/
theorem witness_FpArithmeticResults : start.fpe = true ∧ (∀ e, start.NoTrap e) ∧
    let s := fpu 0x3F800000#64 0x40000000#64 0#64 0x1F#32
    s.fpe = true ∧ ∃ p ∈ singleArithmetic s 1#5 2#5 3#5 4#5, s.NoTrap (s.fpExceptions p.2.flags p.2.tinyExact) :=
  ⟨by decide +kernel, noTrap_of_zero (by decide +kernel), by unfold State.NoTrap; decide +kernel⟩

theorem witness_FpMaxMinResults : start.fpe = true ∧ (∀ e, start.NoTrap e) ∧
    let s := fpu 0x7FC00000#64 0#64 0#64 0x1F#32
    s.fpe = true ∧ s.NoTrap (snanFlags (fp32 (s.fregLow 2#5)) (fp32 (s.fregLow 3#5))) :=
  ⟨by decide +kernel, noTrap_of_zero (by decide +kernel), by unfold State.NoTrap; decide +kernel⟩

theorem witness_CompareResults : start.fpe = true ∧ (∀ e, start.NoTrap e) ∧
    let s := fpu 0#64 0x7FF0000000000000#64 0#64 0x1F#32
    s.fpe = true ∧ s.NoTrap (compareFlags true (fp64 (s.freg 2#5)) (fp64 (s.freg 3#5))) :=
  ⟨by decide +kernel, noTrap_of_zero (by decide +kernel), by unfold State.NoTrap; decide +kernel⟩

/-- The floating-point unit is on (SignAndClassResults, FpMoveResults, FlagMovesAndFlagBranches too); FCSR 4 and 31. -/
theorem witness_FcsrMoveResults : start.fpe = true ∧ 4 ≤ (4#5).toNat ∧ 4 ≤ (31#5).toNat := by decide +kernel
theorem witness_SignAndClassResults : start.fpe = true := by decide +kernel
theorem witness_FpMoveResults : start.fpe = true := by decide +kernel
theorem witness_FlagMovesAndFlagBranches : start.fpe = true := by decide +kernel
theorem witness_FpDisabledTraps : State.reset.fpe = false := by decide +kernel

theorem witness_RelationIsByValue : (FpVal.fin true 0 0).Finite ∧ (FpVal.fin false 1 (-149)).Finite ∧
    FpVal.inf true = .inf true ∧ FpVal.inf false = .inf (!true) := by
  refine ⟨⟨rfl, rfl⟩, ⟨rfl, rfl⟩, rfl, rfl⟩

/-- The ends of the range: -2^31 in binary32, and 2^31 - 0.5 in binary64, which toward zero is 2^31 - 1 and upward 2^31. -/
theorem witness_IntegerConversionResults : start.fpe = true ∧ (∀ e, start.NoTrap e) ∧ (∀ a, (fpu a 0#64 0#64 0#32).fpe = true) ∧
    (∀ a e, (fpu a 0#64 0#64 0#32).NoTrap e) ∧
    (.ftintrneWS 1#5 2#5, .nearestEven, fp32 0xCF000000#32) ∈ intConversions (fpu 0xCF000000#64 0#64 0#64 0#32) 1#5 2#5 ∧
    (.ftintrzWD 1#5 2#5, .towardZero, fp64 0x41DFFFFFFFE00000#64) ∈
      intConversions (fpu 0x41DFFFFFFFE00000#64 0#64 0#64 0#32) 1#5 2#5 ∧
    (fp32 0xCF000000#32).Finite ∧ RoundsToInt .nearestEven (fp32 0xCF000000#32).rat (-2 ^ 31) ∧
    (fp64 0x41DFFFFFFFE00000#64).Finite ∧ RoundsToInt .towardZero (fp64 0x41DFFFFFFFE00000#64).rat (2 ^ 31 - 1) ∧
    RoundsToInt .up (fp64 0x41DFFFFFFFE00000#64).rat (2 ^ 31) ∧ ¬ (fp32 0x7FC00000#32).Finite := by
  refine ⟨by decide +kernel, noTrap_of_zero (by decide +kernel),
    fun _ => show start.fpe = true by decide +kernel, fun _ => noTrap_of_zero rfl, by decide +kernel,
    by decide +kernel, ?_⟩
  have h1 : fp32 0xCF000000#32 = .fin true 0x800000 8 := by decide +kernel
  have h2 : fp64 0x41DFFFFFFFE00000#64 = .fin false 0x1FFFFFFFE00000 (-22) := by decide +kernel
  have h3 : fp32 0x7FC00000#32 = .nan false := by decide +kernel
  rw [h1, h2, h3]
  refine ⟨⟨rfl, rfl⟩, ?_, ⟨rfl, rfl⟩, ?_, ?_, fun h => Bool.noConfusion h.1⟩ <;> norm_num [RoundsToInt, FpVal.rat]

/-- An enabled exception: 1/0 with Z, a signaling NaN with V, 2.5 to an integer with I. -/
theorem witness_FpEnabledExceptionTraps :
    (let s := fpu 0x3F800000#64 0#64 0#64 8#32
     s.fpe = true ∧ ∃ p ∈ singleArithmetic s 1#5 2#5 3#5 4#5, ¬ s.NoTrap (s.fpExceptions p.2.flags p.2.tinyExact)) ∧
    (let s := fpu 0x3FF0000000000000#64 0#64 0#64 8#32
     s.fpe = true ∧ ∃ p ∈ doubleArithmetic s 1#5 2#5 3#5 4#5, ¬ s.NoTrap (s.fpExceptions p.2.flags p.2.tinyExact)) ∧
    (let s := fpu 0x7F800001#64 0x7FF0000000000001#64 0#64 0x10#32
     s.fpe = true ∧ ¬ s.NoTrap (snanFlags (fp32 (s.fregLow 2#5)) (fp32 (s.fregLow 3#5))) ∧
     ¬ s.NoTrap (snanFlags (fp64 (s.freg 2#5)) (fp64 (s.freg 3#5))) ∧
     ¬ s.NoTrap (compareFlags false (fp32 (s.fregLow 2#5)) (fp32 (s.fregLow 3#5))) ∧
     ¬ s.NoTrap (compareFlags false (fp64 (s.freg 2#5)) (fp64 (s.freg 3#5)))) ∧
    (let s := fpu 0x40200000#64 0#64 0#64 1#32
     s.fpe = true ∧ ∃ p ∈ intConversions s 1#5 2#5,
       ¬ s.NoTrap (match p.2.2.toSint32 p.2.1 with | some r => r.2 | none => flagV)) := by
  unfold State.NoTrap; decide +kernel

theorem witness_RoundingIsCorrect : (FpFmt.b32 = FpFmt.b32 ∨ FpFmt.b32 = FpFmt.b64) ∧ 0 < 1 := ⟨.inl rfl, Nat.one_pos⟩

/-- 1 and 1 have a sum, a difference 0, a product and a quotient; 0 and 1 a product and a quotient 0; 1 times 1 and -1 give 0. -/
theorem witness_SumProductQuotientAreCorrect : (FpFmt.b64 = FpFmt.b32 ∨ FpFmt.b64 = FpFmt.b64) ∧
    (FpVal.fin false 1 0).rat + (FpVal.fin false 1 0).rat ≠ 0 ∧ (FpVal.fin false 1 0).rat - (FpVal.fin false 1 0).rat = 0 ∧
    (FpVal.fin false 1 0).rat + (FpVal.fin true 1 0).rat = 0 ∧ (FpVal.fin false 1 0).rat - (FpVal.fin true 1 0).rat ≠ 0 ∧
    (FpVal.fin false 1 0).rat * (FpVal.fin true 1 0).rat ≠ 0 ∧ (FpVal.fin false 1 0).rat ≠ 0 ∧ (FpVal.fin true 0 0).rat = 0 ∧
    (FpVal.fin true 0 0).rat * (FpVal.fin false 1 0).rat = 0 ∧
    (FpVal.fin false 1 0).rat * (FpVal.fin false 1 0).rat + (FpVal.fin true 1 0).rat = 0 ∧
    (FpVal.fin false 1 0).rat * (FpVal.fin false 1 0).rat + (FpVal.fin false 1 0).rat ≠ 0 := by
  refine ⟨.inr rfl, ?_⟩
  norm_num [FpVal.rat]

theorem witness_RootsAreCorrect : (FpFmt.b32 = FpFmt.b32 ∨ FpFmt.b32 = FpFmt.b64) ∧ 0 < 1 := ⟨.inl rfl, Nat.one_pos⟩
/-- 0 < m; a signaling, a quiet NaN and a number for the operands of the fused operation. -/
theorem witness_SpecialOperandResults : (FpFmt.b64 = FpFmt.b32 ∨ FpFmt.b64 = FpFmt.b64) ∧ 0 < 1 ∧ (FpVal.nan true).isSnan = true ∧
    ¬ ((FpVal.nan false).isSnan = true) ∧ (FpVal.nan false).isNan = true ∧ ¬ ((FpVal.fin true 0 0).isSnan = true) ∧
    ¬ ((FpVal.fin true 0 0).isNan = true) ∧ 1 < FpFmt.b32.signBit := by
  refine ⟨.inr rfl, Nat.one_pos, rfl, ?_, rfl, ?_, ?_, ?_⟩ <;> decide +kernel

/-- In binary32 the largest finite number, an infinity and both NaNs; in binary64 the smallest number, -0, an infinity, NaNs. -/
theorem witness_ConversionsAreExactOrRoundedOnce : (fp32 0x7F7FFFFF#32).Finite ∧ fp32 0xFF800000#32 = .inf true ∧
    fp32 0x7F800001#32 = .nan true ∧ fp32 0x7FC00000#32 = .nan false ∧
    (fp64 1#64).Finite ∧ (fp64 1#64).rat ≠ 0 ∧ (fp64 0x8000000000000000#64).Finite ∧ (fp64 0x8000000000000000#64).rat = 0 ∧
    fp64 0x7FF0000000000000#64 = .inf false ∧ fp64 0x7FF0000000000001#64 = .nan true ∧ fp64 0x7FF8000000000000#64 = .nan false ∧
    0x80000000#32 ≠ 0#32 := by
  have h1 : fp64 1#64 = .fin false 1 (-1074) := by decide +kernel
  have h2 : fp64 0x8000000000000000#64 = .fin true 0 (-1074) := by decide +kernel
  rw [h1, h2]
  refine ⟨⟨by decide +kernel, by decide +kernel⟩, by decide +kernel, by decide +kernel, by decide +kernel, ⟨rfl, rfl⟩, ?_, ⟨rfl, rfl⟩, ?_,
    by decide +kernel, by decide +kernel, by decide +kernel, by decide⟩ <;> norm_num [FpVal.rat]

theorem witness_DecodeOfEncode : Instr.wellFormed (.csrxchg 31#5 2#5 0x3FFF#14) = true := by decide
theorem witness_EncodeOfDecode : decodeWord 0x04FFFC5F#32 = .instr (.csrxchg 31#5 2#5 0x3FFF#14) := by decide +kernel

/-- The invariant holds with floating point on and a word placed, and the step there gives a next state. -/
theorem witness_InvariantIsKept : placed.Inv ∧ ∃ t, step placed = .next t := by
  refine ⟨⟨by decide +kernel, by decide +kernel, by unfold Within; decide +kernel, ?_, by decide +kernel, by decide +kernel⟩, ?_⟩
  · constructor <;> (try unfold Within) <;> decide +kernel
  · have h : (match step placed with | .next _ => true | _ => false) = true := by decide +kernel
    match step placed, h with
    | .next t, _ => exact ⟨t, rfl⟩

/-- In user mode an instruction that completes and one that traps. -/
theorem witness_UserModeIsConfined : (mode 0xB#32 start).plv = 3#2 ∧
    (∃ t, exec (.addiW 4#5 5#5 1#12) (mode 0xB#32 start) = .next t) ∧ ∃ t, exec (.syscall 0#15) (mode 0xB#32 start) = .next t :=
  ⟨by decide +kernel, ⟨_, rfl⟩, ⟨_, rfl⟩⟩

/-- An input event: 3 clocks, the external agent stores at the end of the line of LLaddr, before it or nowhere; a reset. -/
def event (stores : List (PAddr × Byte)) (clearLL reset : Bool) : State :=
  { linked with env := [{ ticks := 3, hwi := 1#8, ipi := false, stores := stores, clearLL := clearLL, reset := reset }] }

theorem witness_CountingClocksAndInputEvents : start.timerRunning = false ∧
    ({ start with timerRunning := true, timer := 1#32 }).timer ≠ 0#32 ∧
    ({ start with timerRunning := true, timer := 0#32 }).timer = 0#32 ∧ (2#32).getLsbD 1 = true ∧ (1#32).getLsbD 1 = false ∧
    linked.plat.kindAt (0x1C00103F#36).toNat = some .ram ∧
    (0x1C00103F#36).toNat / 2 ^ linked.plat.cacheLineLog2 = linked.llAddr.toNat / 2 ^ linked.plat.cacheLineLog2 ∧
    (0x1C000FFF#36).toNat / 2 ^ linked.plat.cacheLineLog2 ≠ linked.llAddr.toNat / 2 ^ linked.plat.cacheLineLog2 ∧
    Memory.wf linked.mem = true ∧
    (event [(0x1C00103F#36, 7#8)] false false).input.llbit = false ∧ (event [(0x1C000FFF#36, 7#8)] false false).input.llbit = true ∧
    (event [] true false).input.llbit = false ∧ (event [] false false).input.stableCounter = 3#64 ∧
    (event [] false true).input.stableCounter = 3#64 ∧ (event [] false true).input.pc = 0x1C000000#32 := by
  decide +kernel

/-- Both states of ResetLeavesTheStatedValues are in its list. -/
theorem witness_ResetLeavesTheStatedValues : State.reset ∈ [State.reset, linked.afterReset] := List.mem_cons_self ..

end Sys2Proof.Tests
end

/-! ## What a step runs -/

namespace Sys2Proof.Machine

/-- A read of one byte is that byte. -/
theorem Memory.read_one (m : List Host.Cell) (a : Nat) : (Memory.read m a 1 : Byte) = Memory.byte m a := by
  simpa using Memory.extract_read m a 1 0 Nat.one_pos

/-- Four bytes are read as the word the decoder makes of them (R80, R120). -/
theorem Memory.read_four (m : List Host.Cell) (a : Nat) :
    (Memory.read m a 4 : Word) =
      wordOfBytes (Memory.byte m a) (Memory.byte m (a + 1)) (Memory.byte m (a + 2)) (Memory.byte m (a + 3)) := by
  rw [wordOfBytes, ← Memory.read_one m (a + 3)]
  rfl

/-- From four bytes the decoder reads what their word decodes to (R120). -/
theorem decodeBytes_four {b0 b1 b2 b3 : Byte} {d : Decoded} :
    decodeBytes [b0, b1, b2, b3] = some (d, []) ↔ decodeWord (wordOfBytes b0 b1 b2 b3) = d := by
  simp [decodeBytes]

/-- A fetch where the one word R104 allows is the word in memory returns it and changes nothing (R86). -/
theorem State.fetch_of_readable {s : State} {pa : Nat} (hr : Readable s s.pc .fetch 4 pa)
    (hw : ∀ w ∈ s.fetchable pa, w = Memory.read s.mem pa 4) :
    s.fetch = .ok (Memory.read s.mem pa 4, s) := by
  obtain ⟨halign, ⟨mat, htrans⟩, hrange, hallow⟩ := hr
  have hpa : (BitVec.ofNat 36 pa).toNat = pa := by rw [BitVec.toNat_ofNat, Nat.mod_eq_of_lt hrange]
  refine State.fetch_eq_ok.mpr ⟨aligned_eq_true.mpr halign, _, htrans, ?_, ?_⟩
  · rwa [hpa]
  · rw [hpa, State.fetchWord_clean hw]

/-- A word that decodes to an instruction runs as its meaning (R12). -/
theorem State.runWord_of_instr {s : State} {w : Word} {i : Instr} (h : decodeWord w = .instr i) :
    s.runWord w = exec i s := by
  simp [State.runWord, h]

/-- Once a word is fetched, it runs in the state after its fetch (R12). -/
theorem State.fetchAndRun_of_fetch {s t : State} {w : Word} (h : s.fetch = .ok (w, t)) :
    s.fetchAndRun = t.runWord w := by
  simp [State.fetchAndRun, h]

/-- A core that neither waits nor takes an interrupt fetches and runs an instruction (R12, R520). -/
theorem State.boundary_of_awake {s : State} (hidle : s.idle = false) (hint : s.ie = false ∨ s.pending = 0#13) :
    s.boundary = s.fetchAndRun := by
  have hawake : { s with idle := false } = s := by rw [← hidle]
  have hnone : ¬ (s.ie = true ∧ s.pending ≠ 0#13) := by
    rintro ⟨hie, hpend⟩
    rcases hint with h | h
    · simp [hie] at h
    · exact hpend h
  simp only [State.boundary, hawake, hidle, hnone, Bool.false_eq_true, false_and, if_false]

/-- Settles O25: the step passes the boundary, the fetch gives the word of the four bytes and leaves the state alone, and
the word runs as the instruction it decodes to. -/
theorem stepRunsDecodedInstruction : Obligations.StepRunsDecodedInstruction := by
  intro s i pa u byte hidle hint hread hwords hdecode _
  have hmem : (Memory.read u.mem pa 4 : Word) = wordOfBytes (byte 0) (byte 1) (byte 2) (byte 3) :=
    Memory.read_four u.mem pa
  have hfetch : u.fetch = .ok (Memory.read u.mem pa 4, u) :=
    State.fetch_of_readable hread fun w hw => (hwords w hw).trans hmem.symm
  have hinstr : decodeWord (Memory.read u.mem pa 4) = .instr i := hmem ▸ decodeBytes_four.mp hdecode
  calc step s = u.fetchAndRun := State.boundary_of_awake hidle hint
    _ = u.runWord (Memory.read u.mem pa 4) := State.fetchAndRun_of_fetch hfetch
    _ = exec i u := State.runWord_of_instr hinstr

end Sys2Proof.Machine

namespace Sys2Proof.Machine

/-! ## Bits, fields and masks of a word -/

/-- A word lies within a mask when each of its bits is one of the mask's. -/
theorem within_iff {w m : Word} : Within w m ↔ ∀ i, w.getLsbD i = true → m.getLsbD i = true := by
  unfold Within
  constructor
  · intro h i hw
    have hi : i < 32 := BitVec.lt_of_getLsbD hw
    simpa [hw, hi] using congrArg (·.getLsbD i) h
  · intro h
    apply BitVec.eq_of_getLsbD_eq
    intro i hi
    cases hw : w.getLsbD i
    · simp [hw]
    · simp [hw, hi, h i hw]

theorem Within.trans {w m k : Word} (hw : Within w m) (hm : Within m k) : Within w k :=
  within_iff.mpr fun i hi => within_iff.mp hm i (within_iff.mp hw i hi)

theorem Within.or {a b m : Word} (ha : Within a m) (hb : Within b m) : Within (a ||| b) m :=
  within_iff.mpr fun i hi => by
    rw [BitVec.getLsbD_or, Bool.or_eq_true] at hi
    exact hi.elim (within_iff.mp ha i) (within_iff.mp hb i)

theorem within_or_left (m k : Word) : Within m (m ||| k) :=
  within_iff.mpr fun i hi => by simp [hi]

theorem within_or_right (m k : Word) : Within k (m ||| k) :=
  within_iff.mpr fun i hi => by simp [hi]

theorem Within.refl (m : Word) : Within m m := by simp [Within]

theorem within_zero (m : Word) : Within 0#32 m := by simp [Within]

theorem Within.and_right {w m : Word} (h : Within w m) (k : Word) : Within (w &&& k) m :=
  within_iff.mpr fun i hi => within_iff.mp h i (by simp_all)

theorem within_and_mask (w m : Word) : Within (w &&& m) m :=
  within_iff.mpr fun i hi => by simp_all

/-- A masked write stays within a mask that holds the old word and the bits written (R463). -/
theorem Within.maskWrite {old m k : Word} (h : Within old k) (hm : Within m k) (v : Word) :
    Within (maskWrite old v m) k :=
  (h.and_right _).or ((within_and_mask v m).trans hm)

/-- The bits of a word after a field of it is replaced (R8). -/
theorem getLsbD_setField {n : Nat} (w : Word) (lo : Nat) (v : BitVec n) {i : Nat} (hi : i < 32) :
    (setField w lo v).getLsbD i = if lo ≤ i ∧ i < lo + n then v.getLsbD (i - lo) else w.getLsbD i := by
  have hsub : i - lo < 32 := by omega
  simp only [setField, BitVec.getLsbD_or, BitVec.getLsbD_and, BitVec.getLsbD_not, BitVec.getLsbD_shiftLeft,
    BitVec.getLsbD_setWidth, BitVec.getLsbD_allOnes, hi, hsub, decide_true, Bool.true_and]
  by_cases hlo : i < lo
  · have : ¬ lo ≤ i := by omega
    simp [hlo, this]
  · by_cases hn : i - lo < n
    · have : lo ≤ i ∧ i < lo + n := by omega
      simp [hlo, hn, this]
    · have : ¬ (lo ≤ i ∧ i < lo + n) := by omega
      simp [hlo, hn, this, BitVec.getLsbD_of_ge v (i - lo) (by omega)]

/-- Replacing a field that lies in a mask stays within the mask. -/
theorem Within.setField {n : Nat} {w m : Word} {lo : Nat} (h : Within w m) (v : BitVec n)
    (hf : (BitVec.allOnes n).setWidth 32 <<< lo &&& ~~~m = 0#32 := by decide) : Within (setField w lo v) m := by
  have hfield : Within ((BitVec.allOnes n).setWidth 32 <<< lo) m := hf
  refine within_iff.mpr fun i hi => ?_
  have h32 : i < 32 := BitVec.lt_of_getLsbD hi
  rw [getLsbD_setField w lo v h32] at hi
  split at hi
  · next hr =>
    refine within_iff.mp hfield i ?_
    simp only [BitVec.getLsbD_shiftLeft, BitVec.getLsbD_setWidth, BitVec.getLsbD_allOnes, h32]
    simp only [Bool.and_eq_true, decide_eq_true_eq, Bool.not_eq_true', decide_eq_false_iff_not, true_and]
    omega
  · exact within_iff.mp h i hi

/-- The low bits of a word whose lowest field is replaced are those of the new field. -/
theorem extractLsb'_setField_zero {n k : Nat} (w : Word) (v : BitVec n) (hk : k ≤ n) (hn : k ≤ 32) :
    (setField w 0 v).extractLsb' 0 k = v.extractLsb' 0 k := by
  apply BitVec.eq_of_getLsbD_eq
  intro i hi
  simp only [BitVec.getLsbD_extractLsb', hi, decide_true, Bool.true_and, Nat.zero_add]
  rw [getLsbD_setField w 0 v (by omega), if_pos (by omega), Nat.sub_zero]

/-- The bits below a replaced field are as before. -/
theorem extractLsb'_setField_of_le {n k lo : Nat} (w : Word) (v : BitVec n) (hk : k ≤ lo) (hlo : lo ≤ 32) :
    (setField w lo v).extractLsb' 0 k = w.extractLsb' 0 k := by
  apply BitVec.eq_of_getLsbD_eq
  intro i hi
  simp only [BitVec.getLsbD_extractLsb', hi, decide_true, Bool.true_and, Nat.zero_add]
  rw [getLsbD_setField w lo v (by omega), if_neg (by omega)]

/-- A mask of the low bits holds the bits below its width. -/
theorem getLsbD_lowMask {k i : Nat} (hk : k < 32) : (lowMask k).getLsbD i = decide (i < k) := by
  have hpow : 2 ^ k < 2 ^ 32 := Nat.pow_lt_pow_right (by omega) hk
  have hone : 1 ≤ 2 ^ k := Nat.one_le_two_pow
  have : (lowMask k).toNat = 2 ^ k - 1 := by
    simp only [lowMask, BitVec.toNat_sub, BitVec.toNat_shiftLeft, BitVec.toNat_ofNat, Nat.shiftLeft_eq]
    omega
  rw [← BitVec.testBit_toNat, this, Nat.testBit_two_pow_sub_one]

/-- A number below 2^k is within the mask of the low k bits. -/
theorem within_lowMask {k i : Nat} (hk : k < 32) (hi : i < 2 ^ k) : Within (BitVec.ofNat 32 i) (lowMask k) := by
  refine within_iff.mpr fun j hj => ?_
  rw [getLsbD_lowMask hk, decide_eq_true_eq]
  by_contra hkj
  have : i.testBit j = false :=
    Nat.testBit_lt_two_pow (hi.trans_le (Nat.pow_le_pow_right (by omega) (by omega)))
  simp [BitVec.getLsbD_ofNat, this] at hj

theorem ceilLog2_le (n : Nat) : ceilLog2 n ≤ 16 := by
  unfold ceilLog2
  cases h : (List.range 16).find? (fun k => n ≤ 2 ^ k) with
  | none => simp
  | some k => simpa using (List.mem_range.mp (List.mem_of_find?_eq_some h)).le

/-- Up to 2^16 entries are counted by an index of `ceilLog2` bits (R52). -/
theorem le_two_pow_ceilLog2 {n : Nat} (h : n ≤ 2 ^ 16) : n ≤ 2 ^ ceilLog2 n := by
  unfold ceilLog2
  cases hf : (List.range 16).find? (fun k => n ≤ 2 ^ k) with
  | none => exact h
  | some k => simpa using List.find?_some hf

/-! ## Where a translated access lies -/

/-- 2^j divides a number exactly when its lowest j bits are clear. -/
theorem toNat_mod_two_pow_eq_zero {n : Nat} (x : BitVec n) (j : Nat) :
    x.toNat % 2 ^ j = 0 ↔ ∀ i < j, x.getLsbD i = false := by
  constructor
  · intro h i hi
    simpa [Nat.testBit_mod_two_pow, BitVec.testBit_toNat, hi] using congrArg (·.testBit i) h
  · intro h
    refine Nat.eq_of_testBit_eq fun i => ?_
    rw [Nat.testBit_mod_two_pow, Nat.zero_testBit, BitVec.testBit_toNat]
    by_cases hi : i < j
    · simp [h i hi]
    · simp [hi]

/-- An address in a page has, of the lowest 12 bits, only those of the virtual address (R92). -/
theorem TlbPage.address_low_bit {p : TlbPage} {palen : Nat} {ps : BitVec 6} {va : Word} {i : Nat} (hi : i < 12)
    (h : (p.address palen ps va).getLsbD i = true) : va.getLsbD i = true := by
  simp only [TlbPage.address, BitVec.getLsbD_and, BitVec.getLsbD_or, BitVec.getLsbD_append, hi, if_true,
    BitVec.getLsbD_zero, BitVec.getLsbD_setWidth, Bool.false_and, Bool.false_or, Bool.and_eq_true] at h
  exact h.1.1.2

/-- So has an address in a direct mapping window (R91). -/
theorem windowTranslate_low_bit {w va : Word} {i : Nat} (hi : i < 12)
    (h : (windowTranslate w va).1.getLsbD i = true) : va.getLsbD i = true := by
  simp only [windowTranslate, BitVec.getLsbD_setWidth, BitVec.getLsbD_append, BitVec.getLsbD_extractLsb',
    show i < 29 by omega, show i < 36 by omega, decide_true, Bool.true_and, if_true, Nat.zero_add] at h
  exact h

/-- What a translation by a matching entry that succeeds delivers (R92). -/
theorem TlbEntry.translate_ok {t : TlbEntry} {palen : Nat} {plv : BitVec 2} {va : Word} {k : Access} {pm : PAddr × BitVec 2}
    (h : t.translate palen plv va k = .ok pm) : pm = ((t.page va).address palen t.ps va, (t.page va).mat) := by
  simp only [TlbEntry.translate] at h
  split_ifs at h
  exact (Res.ok.inj h).symm

/-- Of the lowest 12 bits a physical address has only those of the virtual address, whichever way it was mapped (R90). -/
theorem State.translate_low_bit {s : State} {va : Word} {k : Access} {pm : PAddr × BitVec 2} (h : s.translate va k = .ok pm)
    {i : Nat} (hi : i < 12) (hb : pm.1.getLsbD i = true) : va.getLsbD i = true := by
  replace h := (State.translate_eq_ok.mp h).1
  unfold State.mapAddress at h
  split at h
  · obtain rfl := Res.ok.inj h
    simpa [show i < 36 by omega] using hb
  · split_ifs at h
    · obtain rfl := Res.ok.inj h
      exact windowTranslate_low_bit hi hb
    · obtain rfl := Res.ok.inj h
      exact windowTranslate_low_bit hi hb
    · unfold State.tlbTranslate at h
      split at h
      · cases h
      · obtain rfl := TlbEntry.translate_ok h
        exact TlbPage.address_low_bit hi hb
      · cases h

/-- An aligned access of `n` bytes, a power of two up to a page, ends within the physical addresses (R83, R90). -/
theorem State.translate_range {s : State} {va : Word} {k : Access} {pm : PAddr × BitVec 2} {n : Nat}
    (h : s.translate va k = .ok pm) (hn : n ∣ 2 ^ 12) (ha : va.toNat % n = 0) : pm.1.toNat + n ≤ 2 ^ 36 := by
  obtain ⟨j, hj, rfl⟩ := (Nat.dvd_prime_pow Nat.prime_two).mp hn
  have hpa : pm.1.toNat % 2 ^ j = 0 := by
    rw [toNat_mod_two_pow_eq_zero] at ha ⊢
    intro i hi
    cases hb : pm.1.getLsbD i with
    | false => rfl
    | true => rw [← ha i hi, State.translate_low_bit h (by omega) hb]
  obtain ⟨q, hq⟩ := Nat.dvd_of_mod_eq_zero hpa
  have h36 : 2 ^ 36 = 2 ^ j * 2 ^ (36 - j) := by rw [← Nat.pow_add]; congr 1; omega
  have hlt : q < 2 ^ (36 - j) := by
    have := pm.1.isLt
    rw [hq, h36] at this
    exact Nat.lt_of_mul_lt_mul_left this
  calc pm.1.toNat + 2 ^ j = 2 ^ j * (q + 1) := by rw [hq]; ring
    _ ≤ 2 ^ j * 2 ^ (36 - j) := Nat.mul_le_mul_left _ hlt
    _ = 2 ^ 36 := h36.symm

/-- The physical address of an access that can be made, as the translation gives it. -/
theorem Readable.translate_eq {s : State} {va : Word} {k : Access} {n pa : Nat} (h : Readable s va k n pa) :
    ∃ pm, s.translate va k = .ok pm ∧ pm.1.toNat = pa := by
  obtain ⟨mat, htrans⟩ := h.translated
  exact ⟨_, htrans, by rw [BitVec.toNat_ofNat, Nat.mod_eq_of_lt h.range]⟩

/-- An access that can be made reads the bytes in memory (R84). -/
theorem Readable.load_eq {s : State} {va : Word} {n pa : Nat} (h : Readable s va .load n pa) :
    s.load va n = .ok (Memory.read s.mem pa n) := by
  obtain ⟨pm, htrans, rfl⟩ := h.translate_eq
  exact State.load_eq_ok.mpr ⟨aligned_eq_true.mpr h.aligned, pm, htrans, h.admitted, rfl⟩

/-- A store that can be made writes the bytes (R85). -/
theorem Writable.store_eq {s : State} {va : Word} {n pa : Nat} (h : Writable s va n pa) (v : BitVec (8 * n)) :
    s.store va n v = .ok (s.writeMem pa n v) := by
  obtain ⟨pm, htrans, rfl⟩ := h.translate_eq
  exact State.store_eq_ok.mpr ⟨aligned_eq_true.mpr h.aligned, pm, htrans, h.admitted, rfl⟩

/-- The bytes of an access that can be made lie within the physical addresses. -/
theorem Readable.range_end {s : State} {va : Word} {k : Access} {n pa : Nat} (h : Readable s va k n pa) (hn : n ∣ 2 ^ 12) :
    pa + n ≤ 2 ^ 36 := by
  obtain ⟨pm, htrans, rfl⟩ := h.translate_eq
  exact State.translate_range htrans hn h.aligned

/-- A store and the advance are `Stored` (R80, R104). -/
theorem State.stored_writeMem {s : State} {pa n : Nat} (hm : Memory.wf s.mem = true) (hr : pa + n ≤ 2 ^ 36)
    (v : BitVec (8 * n)) : Stored s (s.writeMem pa n v).advance pa n v where
  stored i hi := by
    rw [State.advance_mem, State.writeMem_mem, Memory.byte_write hm v hr, if_pos (by omega), Nat.add_sub_cancel_left]
  others a ha := by rw [State.advance_mem, State.writeMem_mem, Memory.byte_write hm v hr, if_neg (by omega)]
  pc := rfl
  unseen := rfl
  rest := rfl

/-- A store that can be made and the advance are `Stored`. -/
theorem Writable.stored {s : State} {va : Word} {n pa : Nat} (h : Writable s va n pa) (hn : n ∣ 2 ^ 12)
    (hm : Memory.wf s.mem = true) (v : BitVec (8 * n)) : Stored s (s.writeMem pa n v).advance pa n v :=
  State.stored_writeMem hm (Readable.range_end h hn) v

/-- Eight bytes are read least significant first (R80). -/
theorem Memory.read_eight (m : List Host.Cell) (a : Nat) :
    (Memory.read m a 8 : DWord) =
      Memory.byte m (a + 7) ++ Memory.byte m (a + 6) ++ Memory.byte m (a + 5) ++ Memory.byte m (a + 4) ++
        Memory.byte m (a + 3) ++ Memory.byte m (a + 2) ++ Memory.byte m (a + 1) ++ Memory.byte m a := by
  rw [← Memory.read_one m (a + 7)]
  rfl

/-! ## Floating-point loads and stores -/

/-- FLD.S of a word that can be read (R437). -/
theorem exec_fldS_of_readable {s : State} {fd : FReg} {rj : GReg} {si12 : BitVec 12} {pa : Nat} (hfpe : s.fpe = true)
    (h : Readable s (s.effAddr rj si12) .load 4 pa) :
    exec (.fldS fd rj si12) s = .next (s.setFregLow fd (Memory.read s.mem pa 4)).advance := by
  show execFldS fd rj si12 s = _
  rw [execFldS, State.fpOnly_ok hfpe, Res.ok_bind, h.load_eq, Res.ok_bind, State.complete_ok]

/-- FLD.D of a doubleword that can be read (R438). -/
theorem exec_fldD_of_readable {s : State} {fd : FReg} {rj : GReg} {si12 : BitVec 12} {pa : Nat} (hfpe : s.fpe = true)
    (h : Readable s (s.effAddr rj si12) .load 8 pa) :
    exec (.fldD fd rj si12) s = .next (s.setFreg fd (Memory.read s.mem pa 8)).advance := by
  show execFldD fd rj si12 s = _
  rw [execFldD, State.fpOnly_ok hfpe, Res.ok_bind, h.load_eq, Res.ok_bind, State.complete_ok]

/-- FST.S to a word that can be written (R439). -/
theorem exec_fstS_of_writable {s : State} {fd : FReg} {rj : GReg} {si12 : BitVec 12} {pa : Nat} (hfpe : s.fpe = true)
    (h : Writable s (s.effAddr rj si12) 4 pa) :
    exec (.fstS fd rj si12) s = .next (s.writeMem pa 4 (s.fregLow fd)).advance := by
  show execFstS fd rj si12 s = _
  rw [execFstS, State.fpOnly_ok hfpe, Res.ok_bind, h.store_eq, Res.ok_bind, State.complete_ok]

/-- FST.D to a doubleword that can be written (R440). -/
theorem exec_fstD_of_writable {s : State} {fd : FReg} {rj : GReg} {si12 : BitVec 12} {pa : Nat} (hfpe : s.fpe = true)
    (h : Writable s (s.effAddr rj si12) 8 pa) :
    exec (.fstD fd rj si12) s = .next (s.writeMem pa 8 (s.freg fd)).advance := by
  show execFstD fd rj si12 s = _
  rw [execFstD, State.fpOnly_ok hfpe, Res.ok_bind, h.store_eq, Res.ok_bind, State.complete_ok]

/-- Settles O12: the access being possible makes each instruction its read of the bytes at `pa`, or its write there. -/
theorem fpLoadAndStoreResults : Obligations.FpLoadAndStoreResults := by
  intro s fd rj si12 pa hfpe hmem
  refine ⟨fun h => ⟨_, exec_fldS_of_readable hfpe h, ?_⟩, fun h => ⟨_, exec_fldD_of_readable hfpe h, ?_⟩,
    fun h => ⟨_, exec_fstS_of_writable hfpe h, h.stored (by decide) hmem _⟩,
    fun h => ⟨_, exec_fstD_of_writable hfpe h, h.stored (by decide) hmem _⟩⟩
  · rw [Memory.read_four]
    exact State.wroteFregLow_setFregLow s fd _
  · rw [Memory.read_eight]
    exact State.wroteFreg_setFreg s fd _

/-! ## Reset -/

/-- The reset values keep every reserved bit 0 and the privilege level at 0 (R70), for any number of TLB entries and any
platform. -/
theorem Csrs.inv_reset (coreId : BitVec 9) (k : Nat) (p : Platform) : (Csrs.reset coreId).Inv k p where
  plv := .inl (show (0x8#32).extractLsb' 0 2 = 0#2 by decide)
  crmd := show 0x8#32 &&& _ = 0#32 by decide
  prmd := within_zero _
  euen := within_zero _
  ecfg := within_zero _
  estat := within_zero _
  eentry := within_zero _
  tlbidx := Within.trans (m := 0xBF000000#32) (show 0x0C000000#32 &&& _ = 0#32 by decide) (within_or_right _ _)
  tlbehi := within_zero _
  tlbelo0 := within_zero _
  tlbelo1 := within_zero _
  asid := within_zero _
  pgdl := within_zero _
  pgdh := within_zero _
  tcfg := within_zero _
  tlbrentry := within_zero _
  dmw0 := within_zero _
  dmw1 := within_zero _

/-- Settles O57. -/
theorem invariantHoldsAtReset : Obligations.InvariantHoldsAtReset where
  memory := rfl
  zero := rfl
  fcsr := within_zero _
  csrs := Csrs.inv_reset _ _ _
  tlbSome := Nat.zero_lt_succ _
  tlbCount := by decide

/-- The state at power-on is what a reset of it leaves (R571). -/
theorem State.reset_eq_afterReset : State.reset = State.reset.afterReset := rfl

/-- Settles O60: both states are left by a reset of some machine, and a reset fixes each of these fields. -/
theorem resetLeavesTheStatedValues : Obligations.ResetLeavesTheStatedValues := by
  intro s r hr
  obtain ⟨q, rfl⟩ : ∃ q : State, r = q.afterReset := by
    rcases List.mem_pair.mp hr with rfl | rfl
    · exact ⟨_, State.reset_eq_afterReset⟩
    · exact ⟨s, rfl⟩
  have hcsr : q.afterReset.csr = Csrs.reset q.plat.coreId := rfl
  have htid : q.afterReset.csr.tid = BitVec.ofNat 32 q.afterReset.plat.coreId.toNat := by
    rw [BitVec.ofNat_toNat]; rfl
  refine ⟨rfl, rfl, rfl, ?_, ?_, ?_, ?_, rfl, rfl, ?_, ?_, htid, rfl, rfl, rfl, rfl, rfl⟩ <;> simp [hcsr, Csrs.reset]

/-! ## FCSR moves -/

/-- A masked write keeps the bits outside a mask that holds the bits written. -/
theorem maskWrite_and_not (old v m : Word) : maskWrite old v m &&& ~~~m = old &&& ~~~m := by
  ext i hi
  simp only [maskWrite, BitVec.getElem_and, BitVec.getElem_or, BitVec.getElem_not]
  cases m[i] <;> simp

/-- Reading and writing an FCSR that is a view of fcsr0 (R427, R428). -/
theorem readFcsr_of_view {s : State} {n : BitVec 5} {m : Word} (h : fcsrMask n = some m) :
    s.readFcsr n = (s.fcsr0 &&& m, s) := by
  simp [State.readFcsr, h]

theorem writeFcsr_of_view {s : State} {n : BitVec 5} {m : Word} (h : fcsrMask n = some m) (v : Word) :
    s.writeFcsr n v = s.withFcsr (maskWrite s.fcsr0 v m) := by
  simp [State.writeFcsr, h, State.withFcsr]

/-- Reading and writing an FCSR that does not exist (R430). -/
theorem readFcsr_of_no_view {s : State} {n : BitVec 5} (h : fcsrMask n = none) :
    s.readFcsr n = (Config.freeFcsrRead s.draws, { s with draws := s.draws + 1 }) := by
  simp [State.readFcsr, h]

theorem writeFcsr_of_no_view {s : State} {n : BitVec 5} (h : fcsrMask n = none) (v : Word) :
    s.writeFcsr n v =
      { s.withFcsr (maskWrite s.fcsr0 (Config.freeFcsrWrite s.draws) 0x1F1F031F#32) with draws := s.draws + 1 } := by
  simp [State.writeFcsr, h, State.withFcsr]

/-- The FCSRs are the numbers 0 to 3 (R36). -/
theorem fcsrMask_eq_none {n : BitVec 5} (h : 4 ≤ n.toNat) : fcsrMask n = none := by
  unfold fcsrMask
  split <;> first | omega | rfl

theorem exec_movfcsr2gr {s : State} (hfpe : s.fpe = true) (rd : GReg) (n : BitVec 5) :
    exec (.movfcsr2gr rd n) s = .next ((s.readFcsr n).2.setReg rd (s.readFcsr n).1).advance := by
  show execMovfcsr2gr rd n s = _
  rw [execMovfcsr2gr, State.fpOnly_ok hfpe, Res.ok_bind, State.complete_ok]

theorem exec_movgr2fcsr {s : State} (hfpe : s.fpe = true) (n : BitVec 5) (rj : GReg) :
    exec (.movgr2fcsr n rj) s = .next (s.writeFcsr n (s.reg rj)).advance := by
  show execMovgr2fcsr n rj s = _
  rw [execMovgr2fcsr, State.fpOnly_ok hfpe, Res.ok_bind, State.complete_ok]

/-- The advance alone is `WentTo` the next instruction. -/
theorem State.wentTo_advance (s : State) : WentTo s s.advance (s.pc + 4#32) := ⟨rfl, fun _ => rfl, rfl⟩

/-- Settles O44, by whether the number names a view of fcsr0 (0 to 3) or no FCSR (4 to 31). -/
theorem fcsrMoveResults : Obligations.FcsrMoveResults := by
  intro s rd rj hfpe
  constructor
  · intro ⟨n, m⟩ hp
    have hmask : fcsrMask n = some m := by
      simp only [List.mem_cons, Prod.mk.injEq, List.not_mem_nil, or_false] at hp
      rcases hp with ⟨rfl, rfl⟩ | ⟨rfl, rfl⟩ | ⟨rfl, rfl⟩ | ⟨rfl, rfl⟩ <;> rfl
    constructor
    · refine ⟨_, exec_movfcsr2gr hfpe rd n, ?_⟩
      rw [readFcsr_of_view hmask]
      exact State.wroteReg_setReg s rd _
    · refine ⟨_, exec_movgr2fcsr hfpe n rj, ?_⟩
      rw [writeFcsr_of_view hmask]
      exact State.wentTo_advance _
  · intro n hn
    have hmask := fcsrMask_eq_none hn
    constructor
    · refine ⟨Config.freeFcsrRead s.draws, s.draws + 1, _, exec_movfcsr2gr hfpe rd n, ?_⟩
      rw [readFcsr_of_no_view hmask]
      exact State.wroteReg_setReg { s with draws := s.draws + 1 } rd _
    · refine ⟨_, s.draws + 1, maskWrite_and_not _ (Config.freeFcsrWrite s.draws) _, _, exec_movgr2fcsr hfpe n rj, ?_⟩
      rw [writeFcsr_of_no_view hmask]
      exact State.wentTo_advance _

/-! ## The disabled floating-point unit -/

section Disabled
variable {s : State} (hfpe : s.fpe = false)
include hfpe

/-- With the unit off an arithmetic instruction, whatever it commits, ends in the trap entry of FPD (R335). -/
theorem traps_fpArith (r : Ending) : Traps s (s.fpArith r) .fpd 0#32 := State.fpArith_disabled hfpe r

/-- So does a conversion to an integer, whether or not its operand converts (R397). -/
theorem traps_toInt (fd : FReg) (rd : Rounding) (a : FpVal) (invalid : Word) :
    Traps s (s.toInt fd rd a invalid) .fpd 0#32 := by
  unfold State.toInt
  split
  · exact traps_fpArith hfpe _
  · exact traps_fpArith hfpe _

/-- So does an instruction that is not arithmetic (R46). -/
theorem traps_fpOnly (f : Unit → Res State) : Traps s (s.complete (s.fpOnly.bind f)) .fpd 0#32 := by
  unfold Traps
  rw [State.fpOnly_raise hfpe, Res.raise_bind, State.complete_raise]

end Disabled

/-- Settles O46: the families of arithmetic instructions are `fpArith` of their commits, the others check EUEN.FPE first. -/
theorem fpDisabledTraps : Obligations.FpDisabledTraps := by
  intro s fd fj fk fa rd rj cd n si12 offs hfpe
  simp only [fpInstructions, List.flatten_cons, List.flatten_nil, List.forall_mem_append, List.append_nil, List.forall_mem_map]
  refine ⟨?single, ?double, ?singleSel, ?doubleSel, ?singleCmp, ?doubleCmp, ?int, ?rest⟩
  case single | double | singleSel | doubleSel | singleCmp | doubleCmp =>
    simp only [singleArithmetic, doubleArithmetic, singleMaxMin, doubleMaxMin, singleCompares, doubleCompares,
      List.forall_mem_cons, List.not_mem_nil, false_imp_iff, implies_true, and_true]
    and_intros <;> exact traps_fpArith hfpe _
  case int =>
    simp only [intConversions, List.forall_mem_cons, List.not_mem_nil, false_imp_iff, implies_true, and_true]
    and_intros <;> exact traps_toInt hfpe _ _ _ _
  case rest =>
    simp only [List.forall_mem_cons, List.not_mem_nil, false_imp_iff, implies_true, and_true]
    and_intros <;> exact traps_fpOnly hfpe _

/-! ## The invariant under the operations of the state -/

/-- The invariant is about memory, x[0], fcsr0, the CSRs, the number of TLB entries and the platform, and nothing else. -/
theorem State.Inv.of_eq {s t : State} (hs : s.Inv) (hmem : t.mem = s.mem := by simp) (hgpr : t.gpr = s.gpr := by simp)
    (hfcsr : t.fcsr0 = s.fcsr0 := by simp) (hcsr : t.csr = s.csr := by simp)
    (htlb : t.tlb.length = s.tlb.length := by simp) (hplat : t.plat = s.plat := by simp) : t.Inv where
  memory := hmem ▸ hs.memory
  zero := by simpa only [hgpr] using hs.zero
  fcsr := hfcsr ▸ hs.fcsr
  csrs := by simpa only [State.indexBits, hcsr, htlb, hplat] using hs.csrs
  tlbSome := htlb ▸ hs.tlbSome
  tlbCount := htlb ▸ hs.tlbCount

theorem State.Inv.withCsr {s : State} (hs : s.Inv) {c : Csrs} (hc : c.Inv s.indexBits s.plat) : { s with csr := c }.Inv :=
  { hs with csrs := hc }

theorem State.Inv.withFcsr {s : State} (hs : s.Inv) {w : Word} (hw : Within w 0x1F1F031F#32) : (s.withFcsr w).Inv :=
  { hs with fcsr := hw }

theorem State.Inv.withMem {s : State} (hs : s.Inv) {m : List Host.Cell} (hm : Memory.wf m = true) : { s with mem := m }.Inv :=
  { hs with memory := hm }

theorem State.Inv.withTlb {s : State} (hs : s.Inv) {l : List TlbEntry} (hl : l.length = s.tlb.length) :
    { s with tlb := l }.Inv :=
  hs.of_eq (htlb := hl)

theorem State.Inv.withDraws {s : State} (hs : s.Inv) (d : Nat) : { s with draws := d }.Inv := hs.of_eq

theorem State.Inv.advance {s : State} (hs : s.Inv) : s.advance.Inv := hs.of_eq

theorem State.Inv.jump {s : State} (hs : s.Inv) (a : Word) : (s.jump a).Inv := hs.of_eq

theorem State.Inv.branchIf {s : State} (hs : s.Inv) {n : Nat} (taken : Bool) (offs : BitVec n) :
    (s.branchIf taken offs).Inv := by
  unfold State.branchIf
  split
  · exact hs.jump _
  · exact hs.advance

/-- A write of a general register leaves x[0] alone (R21). -/
theorem State.Inv.setReg {s : State} (hs : s.Inv) (r : GReg) (v : Word) : (s.setReg r v).Inv := by
  unfold State.setReg
  split
  · exact hs
  · next hr =>
    have hne : r.toNat ≠ 0 := fun h => hr (BitVec.eq_of_toNat_eq h)
    refine { hs with zero := ?_ }
    show (s.gpr.set r.toNat v r.isLt)[0] = 0#32
    rw [Vector.getElem_set_ne _ _ hne]
    exact hs.zero

theorem State.Inv.setFreg {s : State} (hs : s.Inv) (r : FReg) (v : DWord) : (s.setFreg r v).Inv := hs.of_eq

theorem State.Inv.setFregLow {s : State} (hs : s.Inv) (r : FReg) (v : Word) : (s.setFregLow r v).Inv := hs.of_eq

theorem State.Inv.setFregHigh {s : State} (hs : s.Inv) (r : FReg) (v : Word) : (s.setFregHigh r v).Inv := hs.of_eq

theorem State.Inv.setCflag {s : State} (hs : s.Inv) (c : CReg) (v : Bool) : (s.setCflag c v).Inv := hs.of_eq

theorem State.Inv.setFpCause {s : State} (hs : s.Inv) (e : FpFlags) : (s.setFpCause e).Inv :=
  hs.withFcsr (hs.fcsr.setField e)

theorem State.Inv.addFpFlags {s : State} (hs : s.Inv) (e : FpFlags) : (s.addFpFlags e).Inv :=
  hs.withFcsr (hs.fcsr.setField _)

theorem State.Inv.divResult {s : State} (hs : s.Inv) (rd : GReg) (divisor result : Word) :
    (s.divResult rd divisor result).Inv := by
  unfold State.divResult
  split
  · exact (hs.withDraws _).setReg _ _
  · exact hs.setReg _ _

/-- The views of fcsr0 hold no reserved bit (R35, R36). -/
theorem fcsrMask_within {n : BitVec 5} {m : Word} (h : fcsrMask n = some m) : Within m 0x1F1F031F#32 := by
  unfold fcsrMask at h
  split at h <;> cases h <;> (show _ = 0#32; decide)

theorem State.Inv.readFcsr {s : State} (hs : s.Inv) (n : BitVec 5) : (s.readFcsr n).2.Inv := by
  unfold State.readFcsr
  split
  · exact hs
  · exact hs.withDraws _

theorem State.Inv.writeFcsr {s : State} (hs : s.Inv) (n : BitVec 5) (v : Word) : (s.writeFcsr n v).Inv := by
  cases h : fcsrMask n with
  | some m =>
    rw [writeFcsr_of_view h]
    exact hs.withFcsr (hs.fcsr.maskWrite (fcsrMask_within h) v)
  | none =>
    rw [writeFcsr_of_no_view h]
    exact (hs.withFcsr (hs.fcsr.maskWrite (.refl _) _)).withDraws _

theorem State.Inv.writeMem {s : State} (hs : s.Inv) {pa n : Nat} (hr : pa + n ≤ 2 ^ 36) (v : BitVec (8 * n)) :
    (s.writeMem pa n v).Inv :=
  (hs.withMem (Memory.wf_write hs.memory v hr)).of_eq

/-! ## The invariant under exceptions and CSR writes -/

/-- A new mode in bits 2:0 of CRMD, with or without new DA and PG bits, keeps its reserved bits 0 and its PLV legal when the
new one is 0 or 3 (R44, R490, R530). -/
theorem crmd_of_mode {w crmd : Word} (hw : Within w 0x1FF#32) {mode : BitVec 3}
    (hmode : mode.extractLsb' 0 2 = 0#2 ∨ mode.extractLsb' 0 2 = 3#2) {c : Prop} [Decidable c] {dapg : BitVec 2}
    (h : crmd = if c then setField (setField w 0 mode) 3 dapg else setField w 0 mode) :
    Within crmd 0x1FF#32 ∧ (crmd.extractLsb' 0 2 = 0#2 ∨ crmd.extractLsb' 0 2 = 3#2) := by
  have hset : Within (setField w 0 mode) 0x1FF#32 := hw.setField mode
  have hplv : (setField w 0 mode).extractLsb' 0 2 = mode.extractLsb' 0 2 :=
    extractLsb'_setField_zero w mode (by decide) (by decide)
  subst h
  split
  · rw [extractLsb'_setField_of_le _ _ (by decide) (by decide), hplv]
    exact ⟨hset.setField dapg, hmode⟩
  · rw [hplv]
    exact ⟨hset, hmode⟩

/-- Trap entry keeps the invariant: each field it writes is one of its register's, and the new PLV is 0 (R530, R531). -/
theorem State.Inv.trapEntry {s : State} (hs : s.Inv) (e : Exc) (va : Word) : (s.trapEntry e va).Inv := by
  have hc := hs.csrs
  obtain ⟨hcrmd, hplv⟩ := crmd_of_mode hc.crmd (.inl (by decide)) (show (s.trapEntry e va).csr.crmd = _ from rfl)
  have htlbehi : Within (s.trapEntry e va).csr.tlbehi 0xFFFFE000#32 := by
    show Within (if e.recordsVppn then setField s.csr.tlbehi 13 (va.extractLsb' 13 19) else s.csr.tlbehi) _
    split
    · exact hc.tlbehi.setField _
    · exact hc.tlbehi
  exact { hs with
    csrs := { hc with
      plv := hplv, crmd := hcrmd, tlbehi := htlbehi
      prmd := hc.prmd.setField _, estat := (hc.estat.setField _).setField _ } }

/-- PLV 0 and 3 are the levels that are neither 1 nor 2 (R550). -/
theorem plv_legal {p : BitVec 2} (h1 : p ≠ 1#2) (h2 : p ≠ 2#2) : p = 0#2 ∨ p = 3#2 := by
  revert p; decide

/-- ERTN keeps the invariant: it refuses a previous level of 1 or 2 (R490, U15). -/
theorem State.Inv.returnFromException {s t : State} (hs : s.Inv) (h : s.returnFromException = .ok t) : t.Inv := by
  obtain ⟨h1, h2, rfl⟩ := State.returnFromException_eq_ok.mp h
  have hmode : (s.csr.prmd.extractLsb' 0 3).extractLsb' 0 2 = s.pplv := by
    apply BitVec.eq_of_getLsbD_eq
    intro i hi
    simp [State.pplv, hi]
  obtain ⟨hcrmd, hplv⟩ := crmd_of_mode hs.csrs.crmd (hmode ▸ plv_legal h1 h2) (c := s.ecode = 0x3F#6) (dapg := 0b10#2) rfl
  exact { hs with csrs := { hs.csrs with plv := hplv, crmd := hcrmd } }

/-- The bits of a CSR that a masked write replaces are among its writable ones (R464). -/
theorem Within.csrBits {old k : Word} (h : Within old k) (s : State) (r : CsrName) (hr : Within (s.writableBits r) k)
    (v m : Word) : Within (s.csrBits r old v m) k :=
  h.maskWrite ((within_and_mask m _).trans hr) v

/-- A write of TCFG keeps the invariant: the bits it may set are the fields for this timer width (R57, R551). -/
theorem State.Inv.writeTcfg {s : State} (hs : s.Inv) (v m : Word) : (s.writeTcfg v m).Inv := by
  have htcfg : Within (s.csrBits .tcfg s.csr.tcfg v m) (tcfgFields s.plat.timerBits) :=
    hs.csrs.tcfg.csrBits s .tcfg (.refl _) v m
  unfold State.writeTcfg
  dsimp only
  split_ifs
  · exact hs
  · exact { hs with csrs := { hs.csrs with tcfg := htcfg } }
  · exact { hs with csrs := { hs.csrs with tcfg := htcfg } }

/-- Every CSR write that happens keeps the invariant: each register keeps its reserved bits, and CRMD takes no PLV of 1 or 2
(R43, R464, U15). -/
theorem State.Inv.writeCsr {s t : State} (hs : s.Inv) {r : CsrName} {v m : Word} (h : s.writeCsr r v m = .ok t) : t.Inv := by
  have hc := hs.csrs
  cases r <;> simp only [State.writeCsr] at h
  case crmd =>
    split_ifs at h with hplv
    obtain ⟨h1, h2⟩ := not_or.mp hplv
    cases h
    exact hs.withCsr { hc with plv := plv_legal h1 h2, crmd := hc.crmd.csrBits s .crmd (.refl _) v m }
  case ticlr =>
    split_ifs at h
    · cases h
      exact hs.withCsr { hc with estat := hc.estat.and_right _ }
    · cases h
      exact hs
  case pgd | cpuid | tval => cases h; exact hs
  case tcfg => cases h; exact hs.writeTcfg v m
  case llbctl =>
    cases h
    exact { hs with csrs := { hc with } }
  all_goals cases h
  case prmd => exact hs.withCsr { hc with prmd := hc.prmd.csrBits s .prmd (.refl _) v m }
  case euen => exact hs.withCsr { hc with euen := hc.euen.csrBits s .euen (.refl _) v m }
  case ecfg => exact hs.withCsr { hc with ecfg := hc.ecfg.csrBits s .ecfg (.refl _) v m }
  case estat => exact hs.withCsr { hc with estat := hc.estat.csrBits s .estat (show 0x3#32 &&& _ = 0#32 by decide) v m }
  case eentry => exact hs.withCsr { hc with eentry := hc.eentry.csrBits s .eentry (.refl _) v m }
  case tlbidx => exact hs.withCsr { hc with tlbidx := hc.tlbidx.csrBits s .tlbidx (.refl _) v m }
  case tlbehi => exact hs.withCsr { hc with tlbehi := hc.tlbehi.csrBits s .tlbehi (.refl _) v m }
  case tlbelo0 => exact hs.withCsr { hc with tlbelo0 := hc.tlbelo0.csrBits s .tlbelo0 (.refl _) v m }
  case tlbelo1 => exact hs.withCsr { hc with tlbelo1 := hc.tlbelo1.csrBits s .tlbelo1 (.refl _) v m }
  case asid => exact hs.withCsr { hc with asid := hc.asid.csrBits s .asid (.refl _) v m }
  case pgdl => exact hs.withCsr { hc with pgdl := hc.pgdl.csrBits s .pgdl (.refl _) v m }
  case pgdh => exact hs.withCsr { hc with pgdh := hc.pgdh.csrBits s .pgdh (.refl _) v m }
  case tlbrentry => exact hs.withCsr { hc with tlbrentry := hc.tlbrentry.csrBits s .tlbrentry (.refl _) v m }
  case dmw0 => exact hs.withCsr { hc with dmw0 := hc.dmw0.csrBits s .dmw0 (.refl _) v m }
  case dmw1 => exact hs.withCsr { hc with dmw1 := hc.dmw1.csrBits s .dmw1 (.refl _) v m }
  case era | badv | save0 | save1 | save2 | save3 | tid | ctag => exact hs.withCsr { hc with }

theorem State.Inv.csrWrite {s t : State} (hs : s.Inv) {n : CsrNum} {v m : Word} (h : s.csrWrite n v m = .ok t) : t.Inv := by
  unfold State.csrWrite at h
  split at h
  · exact hs.writeCsr h
  · cases h; exact hs

/-! ## The invariant under the TLB instructions -/

/-- An index of a search is one of an entry. -/
theorem lt_of_mem_tlbIndices {p : TlbEntry → Bool} {l : List TlbEntry} {i k : Nat} (h : i ∈ tlbIndices p l k) :
    i < k + l.length := by
  induction l generalizing k with
  | nil => cases h
  | cons t ts ih =>
    have hrest : i ∈ tlbIndices p ts (k + 1) → i < k + (t :: ts).length := fun h => by
      have := ih h
      rw [List.length_cons]; omega
    unfold tlbIndices at h
    split at h
    · rcases List.mem_cons.mp h with rfl | h
      · simp
      · exact hrest h
    · exact hrest h

/-- The one index a search finds is within TLBIDX.Index (R52, R480). -/
theorem State.Inv.tlbSearch_within {s : State} (hs : s.Inv) {i : Nat} (h : s.tlbSearch = [i]) :
    Within (BitVec.ofNat 32 i) (lowMask s.indexBits) := by
  have hmem : i ∈ s.tlbSearch := h ▸ List.mem_singleton_self i
  have hlt : i < s.tlb.length := by simpa using lt_of_mem_tlbIndices hmem
  have hbits : s.indexBits < 32 := (ceilLog2_le _).trans_lt (by decide)
  exact within_lowMask hbits (hlt.trans_le (le_two_pow_ceilLog2 hs.tlbCount))

/-- What TLBRD shows keeps the reserved bits 0 (R52, R54, R481). -/
theorem State.Inv.showTlbEntry {s : State} (hs : s.Inv) (e : TlbEntry) : (s.showTlbEntry e).Inv := by
  have hc := hs.csrs
  have htlbehi : Within (if e.e then e.vppn ++ 0#13 else 0#32) 0xFFFFE000#32 := by
    split
    · show (e.vppn ++ 0#13) &&& (0#19 ++ 0x1FFF#13) = 0#19 ++ 0#13
      rw [BitVec.and_append, BitVec.and_zero, BitVec.zero_and]
    · exact within_zero _
  have hpage : ∀ p : TlbPage, Within (if e.e then p.toWord e.g &&& s.pageBits else 0#32) (tlbeloFields s.plat.palen) := by
    intro p
    split
    · exact within_and_mask _ _
    · exact within_zero _
  have htlbidx : Within (setField (setField s.csr.tlbidx 24 (if e.e then e.ps else 0#6)) 31 (if e.e then 0#1 else 1#1))
      (lowMask s.indexBits ||| 0xBF000000#32) := by
    refine (hc.tlbidx.setField _ ?_).setField _ ?_
    · exact Within.trans (m := 0xBF000000#32) (show _ = 0#32 by decide) (within_or_right _ _)
    · exact Within.trans (m := 0xBF000000#32) (show _ = 0#32 by decide) (within_or_right _ _)
  exact hs.withCsr
    { hc with
      tlbehi := htlbehi, tlbelo0 := hpage _, tlbelo1 := hpage _, tlbidx := htlbidx, asid := hc.asid.setField _ }

/-- A search that finds one entry leaves TLBIDX within its fields (R480). -/
theorem State.Inv.setTlbIndex {s : State} (hs : s.Inv) {i : Nat} (h : s.tlbSearch = [i]) :
    { s with csr := { s.csr with
      tlbidx := (s.csr.tlbidx &&& ~~~(lowMask s.indexBits ||| 0x80000000#32)) ||| BitVec.ofNat 32 i } }.Inv := by
  have hidx := (hs.csrs.tlbidx.and_right (~~~(lowMask s.indexBits ||| 0x80000000#32))).or
    ((hs.tlbSearch_within h).trans (within_or_left _ 0xBF000000#32))
  exact { hs with csrs := { hs.csrs with tlbidx := hidx } }

/-- A search that finds none sets NE (R480). -/
theorem State.Inv.setTlbNe {s : State} (hs : s.Inv) :
    { s with csr := { s.csr with tlbidx := setField s.csr.tlbidx 31 1#1 } }.Inv := by
  have hne := hs.csrs.tlbidx.setField (lo := 31) 1#1
    (Within.trans (m := 0xBF000000#32) (show _ = 0#32 by decide) (within_or_right _ _))
  exact { hs with csrs := { hs.csrs with tlbidx := hne } }

/-! ## The invariant between instructions -/

theorem State.Inv.afterReset {s : State} (hs : s.Inv) : s.afterReset.Inv where
  memory := hs.memory
  zero := rfl
  fcsr := within_zero _
  csrs := Csrs.inv_reset _ _ _
  tlbSome := by simpa [State.afterReset] using hs.tlbSome
  tlbCount := by simpa [State.afterReset] using hs.tlbCount

/-- The timer sets ESTAT.IS[11] and no other bit of a CSR (R551). -/
theorem State.Inv.timerClocks {s : State} (hs : s.Inv) (k : Nat) : (s.timerClocks k).Inv := by
  have hestat : Within (s.csr.estat ||| 0x800#32) 0x7FFF0803#32 := hs.csrs.estat.or (show _ = 0#32 by decide)
  unfold State.timerClocks
  dsimp only
  split_ifs
  · exact hs.of_eq
  · exact { hs with csrs := { hs.csrs with estat := hestat } }
  · exact { hs with csrs := { hs.csrs with estat := hestat } }
  · exact hs

/-- The external agent stores within the physical addresses (R100). -/
theorem State.Inv.externalStore {s : State} (hs : s.Inv) (c : PAddr × Byte) : (s.externalStore c).Inv := by
  unfold State.externalStore
  split
  · exact { hs with memory := Memory.wf_setByte hs.memory c.2 c.1.isLt }
  · exact hs

theorem State.Inv.externalStores {s : State} (hs : s.Inv) (l : List (PAddr × Byte)) :
    (l.foldl State.externalStore s).Inv := by
  induction l generalizing s with
  | nil => exact hs
  | cons c t ih => exact ih (hs.externalStore c)

theorem State.Inv.applyEvent {s : State} (hs : s.Inv) (ev : EnvEvent) : (s.applyEvent ev).Inv := by
  have hreset : (if ev.reset then s.afterReset else s).Inv := by
    split
    · exact hs.afterReset
    · exact hs
  exact { (hreset.timerClocks ev.ticks).externalStores ev.stores with }

theorem State.Inv.input {s : State} (hs : s.Inv) : s.input.Inv := by
  unfold State.input
  split
  · exact hs
  · have : ∀ rest, { s with env := rest }.Inv := fun rest => hs.of_eq
    exact (this _).applyEvent _

/-! ## The invariant under every instruction -/

/-- If an ending is a next state, that state has the invariant. -/
def Ending.KeepsInv (o : Ending) : Prop := ∀ t, o = .next t → t.Inv

/-- If an operation has a state as its value, that state has the invariant. -/
def Res.KeepsInv (r : Res State) : Prop := ∀ t, r = .ok t → t.Inv

theorem Res.keepsInv_ok {t : State} (ht : t.Inv) : Res.KeepsInv (.ok t) := by
  intro u hu
  cases hu
  exact ht

theorem Res.keepsInv_refuse (q : Refusal) : Res.KeepsInv (.refuse q) := by
  intro u hu
  cases hu

theorem Res.keepsInv_raise (e : Exc) (va : Word) : Res.KeepsInv (.raise e va) := by
  intro u hu
  cases hu

/-- A sequence keeps the invariant when its second part does after every value of the first. -/
theorem Res.keepsInv_bind {α : Type} {r : Res α} {f : α → Res State} (h : ∀ a, r = .ok a → (f a).KeepsInv) :
    (r.bind f).KeepsInv := by
  intro t ht
  obtain ⟨a, ha, hf⟩ := Res.bind_eq_ok.mp ht
  exact h a ha t hf

theorem Ending.keepsInv_next {t : State} (ht : t.Inv) : Ending.KeepsInv (.next t) := by
  intro u hu
  cases hu
  exact ht

/-- A trap entry keeps the invariant, so what an instruction raises does not matter (R12, R530). -/
theorem State.Inv.complete {s : State} (hs : s.Inv) {r : Res State} (hr : r.KeepsInv) : Ending.KeepsInv (s.complete r) := by
  intro t ht
  rcases State.complete_eq_next.mp ht with h | ⟨e, va, -, rfl⟩
  · exact hr t h
  · exact hs.trapEntry e va

/-- An instruction that checks the privilege level or EUEN.FPE first keeps the invariant when the rest of it does. -/
theorem State.Inv.kernel {s : State} (hs : s.Inv) {r : Res State} (hr : r.KeepsInv) :
    Ending.KeepsInv (s.complete (s.kernelOnly.bind fun _ => r)) :=
  hs.complete (Res.keepsInv_bind fun _ _ => hr)

theorem State.Inv.fp {s : State} (hs : s.Inv) {r : Res State} (hr : r.KeepsInv) :
    Ending.KeepsInv (s.complete (s.fpOnly.bind fun _ => r)) :=
  hs.complete (Res.keepsInv_bind fun _ _ => hr)

/-- A floating-point move keeps the invariant when what it writes does. -/
theorem State.Inv.fpMove {s t : State} (hs : s.Inv) (ht : t.Inv) :
    Ending.KeepsInv (s.complete (s.fpOnly.bind fun _ => .ok t)) :=
  hs.fp (Res.keepsInv_ok ht)

/-- What is done with a value read from memory decides. -/
theorem Res.keepsInv_load {s : State} {va : Word} {n : Nat} {f : BitVec (8 * n) → State} (hf : ∀ v, (f v).Inv) :
    ((s.load va n).bind fun v => .ok (f v)).KeepsInv :=
  Res.keepsInv_bind fun v _ => Res.keepsInv_ok (hf v)

/-- A store of 1, 2, 4 or 8 bytes ends within the physical addresses, so memory stays canonical (R80, R83). -/
theorem State.Inv.store {s : State} (hs : s.Inv) {va : Word} {n : Nat} (v : BitVec (8 * n)) (hn : n ∣ 2 ^ 12 := by decide) :
    ((s.store va n v).bind fun t => .ok t.advance).KeepsInv := by
  refine Res.keepsInv_bind fun t ht => ?_
  obtain ⟨halign, pm, htrans, -, rfl⟩ := State.store_eq_ok.mp ht
  exact Res.keepsInv_ok (hs.writeMem (State.translate_range htrans hn (aligned_eq_true.mp halign)) v).advance

/-- LL.W sets the reservation and a register (R291). -/
theorem State.Inv.loadLinked {s : State} (hs : s.Inv) (va : Word) (rd : GReg) :
    ((s.loadLinked va).bind fun wt => .ok (wt.2.setReg rd wt.1).advance).KeepsInv := by
  refine Res.keepsInv_bind fun wt h => ?_
  obtain ⟨-, pa, -, -, rfl⟩ := State.loadLinked_eq_ok.mp h
  have hlinked : { s with llbit := true, llAddr := pa }.Inv := hs.of_eq
  exact Res.keepsInv_ok (hlinked.setReg _ _).advance

/-- SC.W stores an aligned word or nothing (R292). -/
theorem State.Inv.storeConditional {s : State} (hs : s.Inv) (va v : Word) (rd : GReg) :
    ((s.storeConditional va v).bind fun bt => .ok (bt.2.setReg rd (boolWord bt.1)).advance).KeepsInv := by
  refine Res.keepsInv_bind fun bt h => ?_
  obtain ⟨halign, pa, htrans, hcase⟩ := State.storeConditional_eq_ok.mp h
  have hbt : bt.2.Inv := by
    rcases hcase with ⟨-, -, -, rfl⟩ | ⟨-, rfl⟩
    · exact (hs.writeMem (State.translate_range htrans (by decide) (aligned_eq_true.mp halign)) v).of_eq
    · exact hs.of_eq
  exact Res.keepsInv_ok (hbt.setReg _ _).advance

/-- CSRWR and CSRXCHG (R462, R463). -/
theorem State.Inv.csrSwap {s : State} (hs : s.Inv) (n : CsrNum) (v m : Word) (rd : GReg) (w : Word) :
    ((s.csrWrite n v m).bind fun t => .ok (t.setReg rd w).advance).KeepsInv :=
  Res.keepsInv_bind fun _ ht => Res.keepsInv_ok ((hs.csrWrite ht).setReg _ _).advance

/-- A commit keeps the invariant when its write to the destination does (R335). -/
theorem State.Inv.fpCommit {s : State} (hs : s.Inv) (e : FpFlags) (te : Bool) {w : State → State}
    (hw : ∀ t : State, t.Inv → (w t).Inv) : Ending.KeepsInv (s.fpArith (s.fpCommit e te w)) := by
  have hcause := hs.setFpCause (s.fpExceptions e te)
  unfold State.fpArith
  split
  · by_cases h : s.NoTrap (s.fpExceptions e te)
    · rw [State.fpCommit_quiet h]
      exact Ending.keepsInv_next (hw _ (hcause.addFpFlags _)).advance
    · rw [State.fpCommit_trap h]
      exact Ending.keepsInv_next (hcause.trapEntry _ _)
  · exact Ending.keepsInv_next (hs.trapEntry _ _)

theorem State.Inv.arithS {s : State} (hs : s.Inv) (fd : FReg) (op : FpOp) (args : List DWord) (r : FpOut) :
    Ending.KeepsInv (s.arithS fd op args r) := hs.fpCommit _ _ fun _ ht => ht.setFregLow _ _

theorem State.Inv.arithD {s : State} (hs : s.Inv) (fd : FReg) (op : FpOp) (args : List DWord) (r : FpOut) :
    Ending.KeepsInv (s.arithD fd op args r) := hs.fpCommit _ _ fun _ ht => ht.setFreg _ _

theorem State.Inv.selectS {s : State} (hs : s.Inv) (fd : FReg) (op : FpOp) (args : List DWord) (r : FpOut) :
    Ending.KeepsInv (s.selectS fd op args r) := hs.fpCommit _ _ fun _ ht => (ht.withDraws _).setFregLow _ _

theorem State.Inv.selectD {s : State} (hs : s.Inv) (fd : FReg) (op : FpOp) (args : List DWord) (r : FpOut) :
    Ending.KeepsInv (s.selectD fd op args r) := hs.fpCommit _ _ fun _ ht => (ht.withDraws _).setFreg _ _

theorem State.Inv.compare {s : State} (hs : s.Inv) (cond : BitVec 5) (cd : CReg) (a b : FpVal) :
    Ending.KeepsInv (s.compare cond cd a b) := hs.fpCommit _ _ fun _ ht => ht.setCflag _ _

theorem State.Inv.toInt {s : State} (hs : s.Inv) (fd : FReg) (rd : Rounding) (a : FpVal) (invalid : Word) :
    Ending.KeepsInv (s.toInt fd rd a invalid) := by
  unfold State.toInt
  split
  · exact hs.fpCommit _ _ fun _ ht => ht.setFregLow _ _
  · exact hs.fpCommit _ _ fun _ ht => ht.setFregLow _ _

theorem State.Inv.execCacop {s : State} (hs : s.Inv) (code : BitVec 5) (rj : GReg) (si12 : BitVec 12) :
    Ending.KeepsInv (execCacop code rj si12 s) := by
  refine hs.kernel ?_
  split_ifs
  · exact Res.keepsInv_refuse _
  · exact Res.keepsInv_bind fun _ _ => Res.keepsInv_ok hs.advance
  · exact Res.keepsInv_ok hs.advance

theorem State.Inv.execTlbsrch {s : State} (hs : s.Inv) : Ending.KeepsInv (execTlbsrch s) := by
  refine hs.kernel ?_
  split
  · exact Res.keepsInv_ok hs.setTlbNe.advance
  · next hi => exact Res.keepsInv_ok (hs.setTlbIndex hi).advance
  · exact Res.keepsInv_refuse _

theorem State.Inv.execTlbrd {s : State} (hs : s.Inv) : Ending.KeepsInv (execTlbrd s) := by
  refine hs.kernel ?_
  split
  · exact Res.keepsInv_refuse _
  · exact Res.keepsInv_ok (hs.showTlbEntry _).advance

theorem State.Inv.execTlbwr {s : State} (hs : s.Inv) : Ending.KeepsInv (execTlbwr s) := by
  refine hs.kernel ?_
  split
  · exact Res.keepsInv_bind fun t _ => Res.keepsInv_ok (hs.withTlb List.length_set).advance
  · exact Res.keepsInv_refuse _

theorem State.Inv.execTlbfill {s : State} (hs : s.Inv) : Ending.KeepsInv (execTlbfill s) :=
  hs.kernel (Res.keepsInv_bind fun _ _ => Res.keepsInv_ok ((hs.withTlb List.length_set).withDraws _).advance)

theorem State.Inv.execInvtlb {s : State} (hs : s.Inv) (op : BitVec 5) (rj rk : GReg) :
    Ending.KeepsInv (execInvtlb op rj rk s) := by
  refine hs.kernel ?_
  split_ifs
  · exact Res.keepsInv_raise _ _
  · exact Res.keepsInv_refuse _
  · exact Res.keepsInv_ok (hs.withTlb (List.length_map _)).advance

/-- Every instruction keeps the invariant, by what it ends in: a write of one register, a branch, an access to memory, the
commit of a floating-point result, a CSR write, a change of the TLB, or a trap entry. -/
theorem State.Inv.exec {s : State} (hs : s.Inv) (i : Instr) : Ending.KeepsInv (exec i s) := by
  cases i with
  | addW | subW | addiW | lu12iW | slt | sltu | slti | sltui | pcaddu12i | mulW | mulhW | mulhWu | and | or | nor | xor
  | andi | ori | xori | sllW | srlW | sraW | slliW | srliW | sraiW | rdcntvlW | rdcntvhW | rdcntid =>
    exact Ending.keepsInv_next (hs.setReg _ _).advance
  | divW | divWu | modW | modWu => exact Ending.keepsInv_next (hs.divResult _ _ _).advance
  | beq | bne | blt | bge | bltu | bgeu => exact Ending.keepsInv_next (hs.branchIf _ _)
  | b => exact Ending.keepsInv_next (hs.jump _)
  | bl | jirl => exact Ending.keepsInv_next ((hs.setReg _ _).jump _)
  | ldB | ldH | ldW | ldBu | ldHu => exact hs.complete (Res.keepsInv_load fun _ => (hs.setReg _ _).advance)
  | stB | stH | stW => exact hs.complete (hs.store _)
  | preld | dbar => exact Ending.keepsInv_next hs.advance
  | ibar => exact Ending.keepsInv_next (hs.of_eq)
  | llW => exact hs.complete (hs.loadLinked _ _)
  | scW => exact hs.complete (hs.storeConditional _ _ _)
  | syscall | brk => exact hs.complete (Res.keepsInv_raise _ _)
  | faddS | fsubS | fmulS | fdivS | fmaddS | fmsubS | fnmaddS | fnmsubS | fsqrtS | frecipS | frsqrtS | fcvtSD | ffintSW =>
    exact hs.arithS _ _ _ _
  | faddD | fsubD | fmulD | fdivD | fmaddD | fmsubD | fnmaddD | fnmsubD | fsqrtD | frecipD | frsqrtD | fcvtDS | ffintDW =>
    exact hs.arithD _ _ _ _
  | fmaxS | fminS | fmaxaS | fminaS => exact hs.selectS _ _ _ _
  | fmaxD | fminD | fmaxaD | fminaD => exact hs.selectD _ _ _ _
  | fcmpCafS | fcmpSafS | fcmpCltS | fcmpSltS | fcmpCeqS | fcmpSeqS | fcmpCleS | fcmpSleS | fcmpCunS | fcmpSunS | fcmpCultS
  | fcmpSultS | fcmpCueqS | fcmpSueqS | fcmpCuleS | fcmpSuleS | fcmpCneS | fcmpSneS | fcmpCorS | fcmpSorS | fcmpCuneS
  | fcmpSuneS | fcmpCafD | fcmpSafD | fcmpCltD | fcmpSltD | fcmpCeqD | fcmpSeqD | fcmpCleD | fcmpSleD | fcmpCunD | fcmpSunD
  | fcmpCultD | fcmpSultD | fcmpCueqD | fcmpSueqD | fcmpCuleD | fcmpSuleD | fcmpCneD | fcmpSneD | fcmpCorD | fcmpSorD
  | fcmpCuneD | fcmpSuneD =>
    exact hs.compare _ _ _ _
  | ftintWS | ftintWD | ftintrmWS | ftintrmWD | ftintrpWS | ftintrpWD | ftintrzWS | ftintrzWD | ftintrneWS | ftintrneWD =>
    exact hs.toInt _ _ _ _
  | fabsS | fnegS | fcopysignS | fclassS | fmovS | movgr2frW => exact hs.fpMove (hs.setFregLow _ _).advance
  | fabsD | fnegD | fcopysignD | fclassD | fmovD | fsel | movcf2fr => exact hs.fpMove (hs.setFreg _ _).advance
  | movgr2frhW => exact hs.fpMove (hs.setFregHigh _ _).advance
  | movfr2grS | movfrh2grS | movcf2gr => exact hs.fpMove (hs.setReg _ _).advance
  | movgr2fcsr => exact hs.fpMove (hs.writeFcsr _ _).advance
  | movfcsr2gr => exact hs.fpMove ((hs.readFcsr _).setReg _ _).advance
  | movfr2cf | movgr2cf => exact hs.fpMove (hs.setCflag _ _).advance
  | bceqz | bcnez => exact hs.fpMove (hs.branchIf _ _)
  | fldS => exact hs.fp (Res.keepsInv_load fun _ => (hs.setFregLow _ _).advance)
  | fldD => exact hs.fp (Res.keepsInv_load fun _ => (hs.setFreg _ _).advance)
  | fstS | fstD => exact hs.fp (hs.store _)
  | csrrd => exact hs.kernel (Res.keepsInv_ok (hs.setReg _ _).advance)
  | csrwr | csrxchg => exact hs.kernel (hs.csrSwap _ _ _ _ _)
  | cacop => exact hs.execCacop _ _ _
  | tlbsrch => exact hs.execTlbsrch
  | tlbrd => exact hs.execTlbrd
  | tlbwr => exact hs.execTlbwr
  | tlbfill => exact hs.execTlbfill
  | invtlb => exact hs.execInvtlb _ _ _
  | ertn => exact hs.kernel fun _ h => hs.returnFromException h
  | idle => exact hs.kernel (Res.keepsInv_ok (hs.advance.of_eq))

/-! ## The invariant under every step -/

/-- A fetch changes at most the count of free values (R86, R104). -/
theorem State.Inv.fetch {s t : State} {w : Word} (hs : s.Inv) (h : s.fetch = .ok (w, t)) : t.Inv := by
  obtain ⟨-, pm, -, -, hwt⟩ := State.fetch_eq_ok.mp h
  obtain rfl : t = (s.fetchWord pm.1.toNat).2 := congrArg Prod.snd hwt
  rcases (s.fetchWord_spec pm.1.toNat).2 with heq | heq
  · rw [heq]; exact hs
  · rw [heq]; exact hs.withDraws _

theorem State.Inv.runWord {s : State} (hs : s.Inv) (w : Word) : Ending.KeepsInv (s.runWord w) := by
  unfold State.runWord
  split
  · exact hs.exec _
  · exact Ending.keepsInv_next (hs.trapEntry _ _)
  · intro t ht; cases ht

theorem State.Inv.fetchAndRun {s : State} (hs : s.Inv) : Ending.KeepsInv s.fetchAndRun := by
  unfold State.fetchAndRun
  split
  · next h => exact (hs.fetch h).runWord _
  · exact Ending.keepsInv_next (hs.trapEntry _ _)
  · intro t ht; cases ht
  · intro t ht; cases ht

theorem State.Inv.boundary {s : State} (hs : s.Inv) : Ending.KeepsInv s.boundary := by
  have hawake : { s with idle := false }.Inv := hs.of_eq
  unfold State.boundary
  dsimp only
  split_ifs
  · exact Ending.keepsInv_next hs
  · exact Ending.keepsInv_next (hawake.trapEntry _ _)
  · exact hawake.fetchAndRun

/-- Settles O56: the input event keeps the invariant, and so does what happens at the boundary after it. -/
theorem invariantIsKept : Obligations.InvariantIsKept :=
  fun _ t hs h => hs.input.boundary t h

/-! ## CSR numbers and writes -/

/-- A number and the CSR it names stand in the table of R42. -/
theorem mem_csrTable {n : CsrNum} {r : CsrName} (h : csrOfNum n = some r) : (n.toNat, r) ∈ csrTable := by
  obtain ⟨l₁, l₂, hl, -⟩ := List.lookup_eq_some_iff.mp h
  rw [hl]
  simp

/-- No two numbers name one CSR (R42). -/
theorem csrOfNum_inj {n k : CsrNum} {r : CsrName} (hn : csrOfNum n = some r) (hk : csrOfNum k = some r) : n = k := by
  have hinj : ∀ p ∈ csrTable, ∀ q ∈ csrTable, p.2 = q.2 → p.1 = q.1 := by decide
  exact BitVec.eq_of_toNat_eq (hinj _ (mem_csrTable hn) _ (mem_csrTable hk) rfl)

/-- A number that is not in the list of R42 names no CSR. -/
theorem csrOfNum_eq_none {n : CsrNum} (h : n ∉ csrNumbers) : csrOfNum n = none := by
  have hall : ∀ p ∈ csrTable, BitVec.ofNat 14 p.1 ∈ csrNumbers := by decide
  cases hr : csrOfNum n with
  | none => rfl
  | some r => exact absurd (by simpa using hall _ (mem_csrTable hr)) h

theorem State.csrRead_of_name {s : State} {n : CsrNum} {r : CsrName} (h : csrOfNum n = some r) :
    s.csrRead n = s.readCsr r := by
  simp [State.csrRead, h]

theorem State.csrWrite_of_name {s : State} {n : CsrNum} {r : CsrName} (h : csrOfNum n = some r) (v m : Word) :
    s.csrWrite n v m = s.writeCsr r v m := by
  simp [State.csrWrite, h]

/-- A CSR write leaves the pc to the instruction. -/
theorem State.csrWrite_pc {s t : State} {n : CsrNum} {v m : Word} (h : s.csrWrite n v m = .ok t) : t.pc = s.pc := by
  have hpc := congrArg State.pc (State.csrWrite_frame h)
  exact hpc

/-- CSRWR at PLV 0 with a write that happens (R462): the state after the write, and then x[rd] the old value. -/
theorem exec_csrwr {s t : State} {rd : GReg} {n : CsrNum} (hplv : s.plv = 0#2)
    (h : s.csrWrite n (s.reg rd) 0xFFFFFFFF#32 = .ok t) :
    ∃ u, exec (.csrwr rd n) s = .next u ∧ WroteReg t u rd (s.csrRead n) (s.pc + 4#32) := by
  refine ⟨(t.setReg rd (s.csrRead n)).advance, ?_, State.csrWrite_pc h ▸ State.wroteReg_setReg t rd _⟩
  show execCsrwr rd n s = _
  rw [execCsrwr, State.kernelOnly_ok hplv, Res.ok_bind, h, Res.ok_bind, State.complete_ok]

/-- CSRXCHG at PLV 0 with a write that happens (R463). -/
theorem exec_csrxchg {s t : State} {rd rj : GReg} {n : CsrNum} (hplv : s.plv = 0#2)
    (h : s.csrWrite n (s.reg rd) (s.reg rj) = .ok t) :
    ∃ u, exec (.csrxchg rd rj n) s = .next u ∧ WroteReg t u rd (s.csrRead n) (s.pc + 4#32) := by
  refine ⟨(t.setReg rd (s.csrRead n)).advance, ?_, State.csrWrite_pc h ▸ State.wroteReg_setReg t rd _⟩
  show execCsrxchg rd rj n s = _
  rw [execCsrxchg, State.kernelOnly_ok hplv, Res.ok_bind, h, Res.ok_bind, State.complete_ok]

/-! ## Plain CSRs -/

/-- Is the write of a CSR a plain one, of its writable bits and nothing else (R464)? -/
def CsrName.plain : CsrName → Bool
  | .crmd | .tcfg | .ticlr | .llbctl | .pgd | .cpuid | .tval => false
  | _ => true

/-- The rows of `plainCsrs` are plain CSRs with their writable bits. -/
theorem plainCsrs_rows (s : State) : ∀ p ∈ plainCsrs s.indexBits s.plat.palen,
    ∃ r : CsrName, csrOfNum p.1 = some r ∧ r.plain = true ∧ p.2 = s.writableBits r := by
  simp only [plainCsrs, List.forall_mem_cons, List.not_mem_nil, false_imp_iff, implies_true, and_true]
  exact ⟨⟨.prmd, rfl, rfl, rfl⟩, ⟨.euen, rfl, rfl, rfl⟩, ⟨.ecfg, rfl, rfl, rfl⟩, ⟨.estat, rfl, rfl, rfl⟩,
    ⟨.era, rfl, rfl, rfl⟩, ⟨.badv, rfl, rfl, rfl⟩, ⟨.eentry, rfl, rfl, rfl⟩, ⟨.tlbidx, rfl, rfl, BitVec.or_comm _ _⟩,
    ⟨.tlbehi, rfl, rfl, rfl⟩, ⟨.tlbelo0, rfl, rfl, rfl⟩, ⟨.tlbelo1, rfl, rfl, rfl⟩, ⟨.asid, rfl, rfl, rfl⟩,
    ⟨.pgdl, rfl, rfl, rfl⟩, ⟨.pgdh, rfl, rfl, rfl⟩, ⟨.save0, rfl, rfl, rfl⟩, ⟨.save1, rfl, rfl, rfl⟩,
    ⟨.save2, rfl, rfl, rfl⟩, ⟨.save3, rfl, rfl, rfl⟩, ⟨.tid, rfl, rfl, rfl⟩, ⟨.tlbrentry, rfl, rfl, rfl⟩,
    ⟨.ctag, rfl, rfl, rfl⟩, ⟨.dmw0, rfl, rfl, rfl⟩, ⟨.dmw1, rfl, rfl, rfl⟩⟩

/-- The bits of a CSR after a masked write, in the order the statements write them. -/
theorem State.csrBits_eq (s : State) (r : CsrName) (old v m : Word) :
    s.csrBits r old v m = (old &&& ~~~(s.writableBits r &&& m)) ||| (v &&& s.writableBits r &&& m) := by
  rw [State.csrBits, maskWrite, BitVec.and_comm m, BitVec.and_assoc]

/-- Bits shown beside the stored ones, none of them writable, are as before the write (R464). -/
theorem State.csrBits_or (s : State) (r : CsrName) (old v m shown : Word) (h : shown &&& s.writableBits r = 0#32) :
    s.csrBits r old v m ||| shown =
      ((old ||| shown) &&& ~~~(s.writableBits r &&& m)) ||| (v &&& s.writableBits r &&& m) := by
  rw [State.csrBits_eq]
  ext i hi
  have hbit : (shown[i] && (s.writableBits r)[i]) = false := by
    simpa [hi] using congrArg (·.getLsbD i) h
  simp only [BitVec.getElem_or, BitVec.getElem_and, BitVec.getElem_not]
  revert hbit
  cases shown[i] <;> cases (s.writableBits r)[i] <;> simp

/-- The interrupt inputs that ESTAT shows are above its writable bits 1:0 (R48). -/
theorem estat_inputs_and (hwi : BitVec 8) (ipi : Bool) :
    ((hwi.setWidth 32 <<< 2) ||| (boolWord ipi <<< 12)) &&& 0x3#32 = 0#32 := by
  have hmask : 0x3#32 = lowMask 2 := by decide
  apply BitVec.eq_of_getLsbD_eq
  intro i hi
  rw [hmask, BitVec.getLsbD_and, getLsbD_lowMask (by decide), BitVec.getLsbD_zero]
  by_cases h : i < 2
  · simp [h, show i < 12 by omega]
  · simp [h]

/-- A plain write happens, replaces the writable bits under the mask in what the CSR reads as, and changes no other CSR but
PGD, which is a view (R56, R464). -/
theorem State.writeCsr_plain {s : State} {r : CsrName} (hr : r.plain = true) (v m : Word) : ∃ t, s.writeCsr r v m = .ok t ∧
    t.readCsr r = (s.readCsr r &&& ~~~(s.writableBits r &&& m)) ||| (v &&& s.writableBits r &&& m) ∧
    (∀ q, q ≠ r → q ≠ .pgd → t.readCsr q = s.readCsr q) ∧ { t with csr := s.csr } = s := by
  cases r
  case crmd | tcfg | ticlr | llbctl | pgd | cpuid | tval => cases hr
  all_goals refine ⟨_, rfl, ?_, fun q hq hp => by cases q <;> first | rfl | contradiction, rfl⟩
  case estat =>
    have h := s.csrBits_or .estat s.csr.estat v m _ (estat_inputs_and s.hwi s.ipi)
    rwa [← BitVec.or_assoc, ← BitVec.or_assoc] at h
  case asid => exact s.csrBits_or .asid s.csr.asid v m 0x000A0000#32 (show _ &&& 0x3FF#32 = 0#32 by decide)
  all_goals exact s.csrBits_eq _ _ v m

/-- The same by the number of the CSR. -/
theorem State.csrWrite_plain {s : State} {p : CsrNum × Word} (hp : p ∈ plainCsrs s.indexBits s.plat.palen) (v m : Word) :
    ∃ t, s.csrWrite p.1 v m = .ok t ∧ t.csrRead p.1 = (s.csrRead p.1 &&& ~~~(p.2 &&& m)) ||| (v &&& p.2 &&& m) ∧
      (∀ n, n ≠ p.1 → n ≠ 0x1B#14 → t.csrRead n = s.csrRead n) ∧ { t with csr := s.csr } = s := by
  obtain ⟨r, hname, hplain, hmask⟩ := plainCsrs_rows s p hp
  obtain ⟨t, hwrite, hread, hothers, hrest⟩ := State.writeCsr_plain hplain v m
  refine ⟨t, by rw [State.csrWrite_of_name hname, hwrite], ?_, fun n hn hpgd => ?_, hrest⟩
  · rw [State.csrRead_of_name hname, State.csrRead_of_name hname, hread, hmask]
  · cases hq : csrOfNum n with
    | none => simp [State.csrRead, hq]
    | some q =>
      have hqr : q ≠ r := fun h => hn (csrOfNum_inj hq (h ▸ hname))
      have hqpgd : q ≠ .pgd := fun h => hpgd (csrOfNum_inj hq (h ▸ rfl))
      rw [State.csrRead_of_name hq, State.csrRead_of_name hq, hothers q hqr hqpgd]

/-- Settles O28: the plain write of the row happens, and the swap then writes x[rd]. -/
theorem csrWriteReplacesMaskedBits : Obligations.CsrWriteReplacesMaskedBits := by
  intro s rd rj hplv p hp
  constructor
  · obtain ⟨t, hwrite, hread, hothers, hrest⟩ := State.csrWrite_plain hp (s.reg rd) 0xFFFFFFFF#32
    obtain ⟨u, hexec, hwrote⟩ := exec_csrwr hplv hwrite
    exact ⟨t, u, hexec, hread, hothers, hrest, hwrote⟩
  · obtain ⟨t, hwrite, hread, hothers, hrest⟩ := State.csrWrite_plain hp (s.reg rd) (s.reg rj)
    obtain ⟨u, hexec, hwrote⟩ := exec_csrxchg hplv hwrite
    exact ⟨t, u, hexec, hread, hothers, hrest, hwrote⟩

/-! ## The other CSRs -/

/-- What the timer is loaded with is InitVal with two zero bits below it (R551). -/
theorem timerInit_eq (w : Word) : timerInit w = BitVec.ofNat 32 (w.toNat / 4 * 4) := by
  have hmask : 0xFFFFFFFC#32 = ~~~lowMask 2 := by decide
  apply BitVec.eq_of_getLsbD_eq
  intro i hi
  rw [timerInit, hmask, BitVec.getLsbD_and, BitVec.getLsbD_not, getLsbD_lowMask (by decide), BitVec.getLsbD_ofNat,
    show w.toNat / 4 * 4 = w.toNat / 2 ^ 2 * 2 ^ 2 from rfl, Nat.testBit_mul_two_pow, Nat.testBit_div_two_pow,
    BitVec.testBit_toNat]
  by_cases h : i < 2
  · simp [h]
  · simp [h, hi, show 2 ≤ i by omega]

/-- Settles O29: both instructions do the CSR write with their mask, and each CSR's write is its own case. -/
theorem specialCsrWrites : Obligations.SpecialCsrWrites := by
  intro s rd rj hplv p hp v m crmd w tcfg swaps
  have hswap : ∀ {n : CsrNum} {t : State}, s.csrWrite n v m = .ok t → swaps n t := by
    intro n t h
    rcases List.mem_pair.mp hp with rfl | rfl
    · exact exec_csrwr hplv h
    · exact exec_csrxchg hplv h
  refine ⟨?crmd, ?tcfgNone, ?tcfgOn, ?tcfgOff, ?ticlrClear, ?ticlrKeep, ?llbctl, ?ignored⟩
  case crmd =>
    intro hlegal
    have hnew : s.csrBits .crmd s.csr.crmd v m = crmd := by
      show maskWrite s.csr.crmd v (m &&& 0x1FF#32) = crmd
      rw [maskWrite, ← BitVec.and_assoc]
    have hplv' : ¬ (crmd.extractLsb' 0 2 = 1#2 ∨ crmd.extractLsb' 0 2 = 2#2) := by
      rcases hlegal with h | h <;> rw [h] <;> decide
    rw [← hnew] at hplv' ⊢
    exact hswap (if_neg hplv')
  case tcfgNone =>
    intro hm
    refine hswap ?_
    show Res.ok (s.writeTcfg v m) = _
    simp only [State.writeTcfg, hm, if_true]
  case tcfgOn =>
    intro hm hen
    refine hswap ?_
    show Res.ok (s.writeTcfg v m) = _
    rw [← timerInit_eq]
    exact congrArg Res.ok ((if_neg hm).trans (if_pos hen))
  case tcfgOff =>
    intro hm hen
    refine hswap ?_
    show Res.ok (s.writeTcfg v m) = _
    exact congrArg Res.ok ((if_neg hm).trans (if_neg (ne_true_of_eq_false hen)))
  case ticlrClear => exact fun h => hswap (if_pos h)
  case ticlrKeep => exact fun h => hswap (if_neg (ne_true_of_eq_false h))
  case llbctl =>
    refine hswap ?_
    show Res.ok _ = _
    cases h : (v &&& m).getLsbD 1 <;> simp
  case ignored =>
    rintro n (hn | hn)
    · refine hswap ?_
      simp only [List.mem_cons, List.not_mem_nil, or_false] at hn
      rcases hn with rfl | rfl | rfl <;> rfl
    · exact hswap (by simp [State.csrWrite, csrOfNum_eq_none hn])

end Sys2Proof.Machine

namespace Sys2Proof.Machine

/-! ## Narrow reads of a wide write -/

/-- A read of bytes a write covers gives the bytes of the value (R81). -/
theorem Memory.read_write {m : List Host.Cell} (h : Memory.wf m = true) {a n : Nat} (v : BitVec (8 * n)) (ha : a + n ≤ 2 ^ 36)
    {j k : Nat} (hjk : j + k ≤ n) : Memory.read (Memory.write m a n v) (a + j) k = v.extractLsb' (8 * j) (8 * k) := by
  induction k generalizing j with
  | zero => exact BitVec.eq_of_getLsbD_eq fun i hi => absurd hi (Nat.not_lt_zero i)
  | succ k ih =>
    have hbyte : Memory.byte (Memory.write m a n v) (a + j) = v.extractLsb' (8 * j) 8 := by
      rw [Memory.byte_write h v ha, if_pos (by omega), Nat.add_sub_cancel_left]
    rw [Memory.read_succ, Nat.add_assoc, ih (by omega), hbyte]
    exact BitVec.extractLsb'_append_extractLsb'_eq_extractLsb' (by omega)

/-- Settles O19: each read covers some of the bytes written. -/
theorem narrowReadAfterWideWrite : Obligations.NarrowReadAfterWideWrite := by
  intro m a v w hm
  refine ⟨fun ha => ⟨Memory.wf_write hm _ ha, ?_, ?_, ?_⟩, fun ha => ⟨Memory.wf_write hm _ ha, ?_, ?_⟩⟩
  · exact Memory.read_write hm (n := 4) v ha (j := 0) (by decide)
  · exact Memory.read_write hm (n := 4) v ha (by decide)
  · exact Memory.read_write hm (n := 4) v ha (by decide)
  · exact Memory.read_write hm (n := 8) w ha (j := 0) (by decide)
  · exact Memory.read_write hm (n := 8) w ha (by decide)

/-! ## Address translation -/

/-- Two words agree in bits 31:29 exactly when their quotients by 2^29 do. -/
theorem extractLsb'_top_eq_iff {v w : Word} : v.extractLsb' 29 3 = w.extractLsb' 29 3 ↔ v.toNat / 2 ^ 29 = w.toNat / 2 ^ 29 := by
  rw [← BitVec.toNat_inj, BitVec.extractLsb'_toNat, BitVec.extractLsb'_toNat, Nat.shiftRight_eq_div_pow,
    Nat.shiftRight_eq_div_pow]
  omega

/-- `window_hit` said with division (R91). -/
theorem State.windowHit_iff {s : State} {w va : Word} :
    s.windowHit w va = true ↔ va.toNat / 2 ^ 29 = w.toNat / 2 ^ 29 ∧
      ((s.plv = 0#2 ∧ w.getLsbD 0 = true) ∨ (s.plv = 3#2 ∧ w.getLsbD 3 = true)) := by
  simp only [State.windowHit, Bool.and_eq_true, Bool.or_eq_true, beq_iff_eq, extractLsb'_top_eq_iff]

/-- The address of a window is PSEG above the low 29 bits (R91). -/
theorem windowTranslate_eq (w va : Word) : windowTranslate w va =
    (BitVec.ofNat 36 ((w.extractLsb' 25 3).toNat * 2 ^ 29 + va.toNat % 2 ^ 29), w.extractLsb' 4 2) := by
  have hlow : (va.extractLsb' 0 29).toNat = va.toNat % 2 ^ 29 := by rw [BitVec.extractLsb'_toNat, Nat.shiftRight_zero]
  have haddr : (w.extractLsb' 25 3 ++ va.extractLsb' 0 29).toNat = (w.extractLsb' 25 3).toNat * 2 ^ 29 + va.toNat % 2 ^ 29 := by
    rw [BitVec.toNat_append, ← Nat.shiftLeft_add_eq_or_of_lt (BitVec.isLt _), Nat.shiftLeft_eq, hlow]
  rw [windowTranslate, ← haddr, BitVec.ofNat_toNat]

/-- Bit 31 of a word is set exactly when it is at least 2^31. -/
theorem getLsbD_top_iff {w : Word} : w.getLsbD 31 = true ↔ 2 ^ 31 ≤ w.toNat := by
  rw [show w.getLsbD 31 = w.msb from rfl, BitVec.msb_eq_decide, decide_eq_true_eq]

/-- Direct mode (R90). -/
theorem State.mapAddress_direct {s : State} (hda : s.da = true) (hpg : s.pg = false) (va : Word) (k : Access) :
    s.mapAddress va k = .ok (va.setWidth 36, if k = .fetch then s.datf else s.datm) := by
  simp [State.mapAddress, hda, hpg]

/-- Mapped mode (R90): the windows in order, the address check, the TLB. -/
theorem State.mapAddress_mapped {s : State} (hda : s.da = false) (hpg : s.pg = true) (va : Word) (k : Access) :
    s.mapAddress va k =
      if s.windowHit s.csr.dmw0 va then .ok (windowTranslate s.csr.dmw0 va)
      else if s.windowHit s.csr.dmw1 va then .ok (windowTranslate s.csr.dmw1 va)
      else if s.plat.adeCheck ∧ s.plv = 3#2 ∧ va.getLsbD 31 then .raise k.addressError va
      else s.tlbTranslate va k := by
  simp [State.mapAddress, hda, hpg]

/-- Neither mode (R90, U14). -/
theorem State.mapAddress_undefined {s : State} (h : s.da = s.pg) (va : Word) (k : Access) :
    s.mapAddress va k = .refuse .translationModeUndefined := by
  cases hpg : s.pg <;> simp [State.mapAddress, h, hpg]

/-- The access types 2 and 3 are the reserved ones (R88). -/
theorem reserved_iff {mat : BitVec 2} : mat.getLsbD 1 = false ↔ mat.toNat < 2 := by
  revert mat; decide

/-- Settles O35: the modes by DA and PG, in mapped mode the branches in order, and then the access type. -/
theorem translationModesAndWindows : Obligations.TranslationModesAndWindows := by
  intro s va k hit window
  have hhit : ∀ w, s.windowHit w va = true ↔ hit w := fun w => State.windowHit_iff
  have hwindow : ∀ w, windowTranslate w va = window w := fun w => windowTranslate_eq w va
  refine ⟨fun hda hpg => ?_, fun hda hpg => ?_, fun h => s.mapAddress_undefined h va k, fun pa mat h => ?_, fun e w h => ?_,
    fun r h => ?_⟩
  · rw [BitVec.ofNat_toNat]
    exact s.mapAddress_direct hda hpg va k
  · simp only [s.mapAddress_mapped hda hpg, hhit, hwindow, getLsbD_top_iff]
    refine ⟨fun h0 => if_pos h0, fun h0 h1 => ?_, fun h0 h1 => ⟨fun hc => ?_, fun hc => ?_⟩⟩
    · rw [if_neg h0, if_pos h1]
    · rw [if_neg h0, if_neg h1, if_pos hc]
      cases k <;> rfl
    · rw [if_neg h0, if_neg h1, if_neg hc]
  · rw [State.translate, h, Res.ok_bind]
    simp only [← reserved_iff]
    cases mat.getLsbD 1 <;> rfl
  · rw [State.translate, h, Res.raise_bind]
  · rw [State.translate, h, Res.refuse_bind]

/-! ## The TLB -/

/-- `hits` said with division (R92). -/
theorem TlbEntry.hits_iff {e : TlbEntry} {asid : BitVec 10} {vppn : BitVec 19} :
    e.hits asid vppn = true ↔ e.Matches asid vppn := by
  have hvppn : e.vppnMatches vppn = true ↔
      e.vppn.toNat / 2 ^ (e.ps.toNat - 12) = vppn.toNat / 2 ^ (e.ps.toNat - 12) := by
    rw [TlbEntry.vppnMatches, beq_iff_eq, ← BitVec.toNat_inj, BitVec.toNat_ushiftRight, BitVec.toNat_ushiftRight,
      Nat.shiftRight_eq_div_pow, Nat.shiftRight_eq_div_pow]
  simp only [TlbEntry.hits, TlbEntry.Matches, Bool.and_eq_true, Bool.or_eq_true, beq_iff_eq, hvppn, and_assoc]

/-- The entries of a list before and after the one at an index. -/
theorem eq_take_append_drop_of_getElem? {α : Type} {l : List α} {i : Nat} {a : α} (h : l[i]? = some a) :
    l = l.take i ++ a :: l.drop (i + 1) := by
  obtain ⟨hi, rfl⟩ := List.getElem?_eq_some_iff.mp h
  rw [List.cons_getElem_drop_succ, List.take_append_drop]

/-- A filter that one index alone satisfies leaves its element. -/
theorem filter_eq_singleton_of_unique {α : Type} {p : α → Bool} {l : List α} {i : Nat} {a : α} (h : l[i]? = some a)
    (hp : p a = true) (huniq : ∀ j b, l[j]? = some b → p b = true → j = i) : l.filter p = [a] := by
  have hbefore : (l.take i).filter p = [] := by
    refine List.filter_eq_nil_iff.mpr fun b hb hpb => ?_
    obtain ⟨j, hj⟩ := List.mem_iff_getElem?.mp hb
    rw [List.getElem?_take] at hj
    split_ifs at hj with hlt
    exact absurd (huniq j b hj hpb) (by omega)
  have hafter : (l.drop (i + 1)).filter p = [] := by
    refine List.filter_eq_nil_iff.mpr fun b hb hpb => ?_
    obtain ⟨j, hj⟩ := List.mem_iff_getElem?.mp hb
    rw [List.getElem?_drop] at hj
    exact absurd (huniq _ b hj hpb) (by omega)
  rw [eq_take_append_drop_of_getElem? h, List.filter_append, hbefore, List.filter_cons_of_pos hp, hafter, List.nil_append]

/-- A filter that two indices satisfy leaves two elements at least. -/
theorem two_le_length_filter {α : Type} {p : α → Bool} {l : List α} {i j : Nat} {a b : α} (ha : l[i]? = some a)
    (hb : l[j]? = some b) (hpa : p a = true) (hpb : p b = true) (hij : i < j) : 2 ≤ (l.filter p).length := by
  have hdrop : b ∈ l.drop (i + 1) :=
    List.mem_iff_getElem?.mpr ⟨j - (i + 1), by rw [List.getElem?_drop, ← hb]; congr 1; omega⟩
  have hpos : 0 < ((l.drop (i + 1)).filter p).length := List.length_pos_of_mem (List.mem_filter.mpr ⟨hdrop, hpb⟩)
  rw [eq_take_append_drop_of_getElem? ha, List.filter_append, List.filter_cons_of_pos hpa, List.length_append, List.length_cons]
  omega

/-- No match raises TLBR (R92). -/
theorem State.tlbTranslate_of_none {s : State} {va : Word} (h : s.tlbHits va = []) (k : Access) :
    s.tlbTranslate va k = .raise .tlbr va := by
  simp [State.tlbTranslate, h]

/-- One match is checked and used (R92). -/
theorem State.tlbTranslate_of_one {s : State} {va : Word} {e : TlbEntry} (h : s.tlbHits va = [e]) (k : Access) :
    s.tlbTranslate va k = e.translate s.plat.palen s.plv va k := by
  simp [State.tlbTranslate, h]

/-- Several matches are refused (R92, U13). -/
theorem State.tlbTranslate_of_many {s : State} {va : Word} (h : 2 ≤ (s.tlbHits va).length) (k : Access) :
    s.tlbTranslate va k = .refuse .tlbMultipleHit := by
  unfold State.tlbTranslate
  match hl : s.tlbHits va with
  | [] => simp [hl] at h
  | [e] => simp [hl] at h
  | _ :: _ :: _ => rfl

/-- A mask of the low bits of a physical address holds the bits below its width. -/
theorem getLsbD_lowMaskP {k i : Nat} (hk : k ≤ 36) : (lowMaskP k).getLsbD i = decide (i < k) := by
  have hpow : 2 ^ k ≤ 2 ^ 36 := Nat.pow_le_pow_right (by omega) hk
  have hone : 1 ≤ 2 ^ k := Nat.one_le_two_pow
  have hmask : (lowMaskP k).toNat = 2 ^ k - 1 := by
    simp only [lowMaskP, BitVec.toNat_sub, BitVec.toNat_shiftLeft, BitVec.toNat_ofNat, Nat.shiftLeft_eq]
    omega
  rw [← BitVec.testBit_toNat, hmask, Nat.testBit_two_pow_sub_one]

/-- The bits of a page's address: those of the page number above the page size and those of the virtual address below it,
as many as PALEN has (R92). -/
theorem TlbPage.getLsbD_address (p : TlbPage) {palen : Nat} (hpalen : palen ≤ 36) {ps : BitVec 6} (hps : ps.toNat ≤ 36)
    (va : Word) {i : Nat} (hi : i < 36) : (p.address palen ps va).getLsbD i =
      (decide (i < palen) && if i < ps.toNat then va.getLsbD i else (p.ppn ++ 0#12).getLsbD i) := by
  simp only [TlbPage.address, BitVec.getLsbD_and, BitVec.getLsbD_or, BitVec.getLsbD_not, BitVec.getLsbD_setWidth,
    getLsbD_lowMaskP hpalen, getLsbD_lowMaskP hps, hi, decide_true, Bool.true_and]
  by_cases hlt : i < ps.toNat <;> simp [hlt, Bool.and_comm]

/-- The address of a page from 2^12 to 2^31 bytes as a number (R92). -/
theorem TlbPage.address_eq (p : TlbPage) {palen : Nat} (hlo : 32 ≤ palen) (hhi : palen ≤ 36) {ps : BitVec 6}
    (hps : 12 ≤ ps.toNat) (hps' : ps.toNat ≤ 31) (va : Word) : p.address palen ps va =
      BitVec.ofNat 36 (p.ppn.toNat / 2 ^ (ps.toNat - 12) * 2 ^ ps.toNat % 2 ^ palen + va.toNat % 2 ^ ps.toNat) := by
  have hlow : va.toNat % 2 ^ ps.toNat < 2 ^ ps.toNat := Nat.mod_lt _ (Nat.two_pow_pos _)
  have hpow : 2 ^ palen = 2 ^ (palen - ps.toNat) * 2 ^ ps.toNat := by rw [← Nat.pow_add]; congr 1; omega
  apply BitVec.eq_of_getLsbD_eq
  intro i hi
  rw [p.getLsbD_address hhi (by omega) va hi, BitVec.getLsbD_ofNat, hpow, Nat.mul_mod_mul_right,
    Nat.mul_comm _ (2 ^ ps.toNat), Nat.testBit_two_pow_mul_add _ hlow]
  by_cases hlt : i < ps.toNat
  · simp [hlt, hi, show i < palen by omega, Nat.testBit_mod_two_pow, BitVec.testBit_toNat]
  · have hpage : i - ps.toNat + (ps.toNat - 12) = i - 12 := by omega
    have hin : i - ps.toNat < palen - ps.toNat ↔ i < palen := by omega
    simp only [hlt, if_false, hi, decide_true, Bool.true_and, Nat.testBit_mod_two_pow, Nat.testBit_div_two_pow,
      BitVec.testBit_toNat, BitVec.getLsbD_append, show ¬ i < 12 by omega, hpage, hin]

/-- The checks of a matching entry, by its page (R92): V. -/
theorem TlbEntry.translate_invalid {e : TlbEntry} {va : Word} (hv : (e.page va).v = false) (palen : Nat) (plv : BitVec 2)
    (k : Access) : e.translate palen plv va k = .raise k.invalid va := by
  simp [TlbEntry.translate, hv]

/-- Then the level. -/
theorem TlbEntry.translate_ppi {e : TlbEntry} {va : Word} {plv : BitVec 2} (hv : (e.page va).v = true)
    (hplv : (e.page va).plv.toNat < plv.toNat) (palen : Nat) (k : Access) :
    e.translate palen plv va k = .raise .ppi va := by
  simp [TlbEntry.translate, hv, hplv]

/-- Then D, for a store. -/
theorem TlbEntry.translate_pme {e : TlbEntry} {va : Word} {plv : BitVec 2} (hv : (e.page va).v = true)
    (hplv : plv.toNat ≤ (e.page va).plv.toNat) (hd : (e.page va).d = false) (palen : Nat) :
    e.translate palen plv va .store = .raise .pme va := by
  simp [TlbEntry.translate, hv, Nat.not_lt.mpr hplv, hd]

/-- An access that passes them has the page's address and type. -/
theorem TlbEntry.translate_of_allowed {e : TlbEntry} {va : Word} {plv : BitVec 2} {k : Access} (hv : (e.page va).v = true)
    (hplv : plv.toNat ≤ (e.page va).plv.toNat) (hd : ¬ (k = .store ∧ (e.page va).d = false)) (palen : Nat) :
    e.translate palen plv va k = .ok ((e.page va).address palen e.ps va, (e.page va).mat) := by
  simp only [TlbEntry.translate, hv, Nat.not_lt.mpr hplv, hd, Bool.not_true, Bool.false_eq_true, if_false]

/-- Settles O36: the entries found are those of `tlbHits`, so its shape is by how many there are. -/
theorem tlbTranslationResult : Obligations.TlbTranslationResult := by
  intro s va k found
  have hits : ∀ {e : TlbEntry}, e.hits s.asid (va.extractLsb' 13 19) = true ↔ e.Matches s.asid (va.extractLsb' 13 19) :=
    TlbEntry.hits_iff
  refine ⟨?none, ?one, ?many⟩
  case none =>
    intro hnone
    refine State.tlbTranslate_of_none (List.filter_eq_nil_iff.mpr fun e he hhit => ?_) k
    obtain ⟨i, hi⟩ := List.mem_iff_getElem?.mp he
    exact hnone i e ⟨hi, hits.mp hhit⟩
  case one =>
    intro i e ⟨he, hm⟩ huniq hps hps' lo
    have hone : s.tlbHits va = [e] :=
      filter_eq_singleton_of_unique he (hits.mpr hm) fun j b hj hb => huniq j b ⟨hj, hits.mp hb⟩
    have hpage : e.page va = lo := by
      simp only [TlbEntry.page, lo]
      cases va.getLsbD e.ps.toNat <;> rfl
    have hpalen : 32 ≤ s.plat.palen ∧ s.plat.palen ≤ 36 := by
      have := s.plat.palenOver32.isLt
      unfold Platform.palen; omega
    rw [State.tlbTranslate_of_one hone, ← lo.address_eq hpalen.1 hpalen.2 hps hps', ← hpage]
    refine ⟨fun hv => ?_, fun hv hplv => e.translate_ppi hv hplv _ k, fun hv hplv hk hd => ?_,
      fun hv hplv hd => e.translate_of_allowed hv hplv hd _⟩
    · rw [e.translate_invalid hv]
      cases k <;> rfl
    · subst hk
      exact e.translate_pme hv hplv hd _
  case many =>
    intro i j e e' ⟨he, hm⟩ ⟨he', hm'⟩ hij
    refine State.tlbTranslate_of_many ?_ k
    rcases Nat.lt_or_gt_of_ne hij with hlt | hlt
    · exact two_le_length_filter he he' (hits.mpr hm) (hits.mpr hm') hlt
    · exact two_le_length_filter he' he (hits.mpr hm') (hits.mpr hm) hlt

/-! ## Loads and stores that complete -/

/-- The address of R270 as a signed sum. -/
theorem State.effAddr_eq_ofInt (s : State) (rj : GReg) (si12 : BitVec 12) :
    s.effAddr rj si12 = BitVec.ofInt 32 ((s.reg rj).toInt + si12.toInt) := by
  rw [BitVec.ofInt_add, BitVec.ofInt_toInt]
  rfl

/-- The address of R290 as a signed sum. -/
theorem State.llAddrOf_eq_ofInt (s : State) (rj : GReg) (si14 : BitVec 14) :
    s.llAddrOf rj si14 = BitVec.ofInt 32 ((s.reg rj).toInt + 4 * si14.toInt) := by
  have hscaled : (si14 ++ 0#2).toInt = 4 * si14.toInt := BitVec.toInt_append_zero
  rw [BitVec.ofInt_add, BitVec.ofInt_toInt, ← hscaled]
  rfl

/-- Two bytes are read least significant first (R80). -/
theorem Memory.read_two (m : List Host.Cell) (a : Nat) :
    (Memory.read m a 2 : BitVec 16) = Memory.byte m (a + 1) ++ Memory.byte m a := by
  rw [← Memory.read_one m (a + 1)]
  rfl

/-- A load into x[rd] that can be made sets it to what `f` makes of the bytes read. -/
theorem Readable.setsReg {s : State} {va : Word} {n pa : Nat} (h : Readable s va .load n pa) (rd : GReg)
    (f : BitVec (8 * n) → Word) :
    SetsReg s (s.complete ((s.load va n).bind fun v => .ok (s.setReg rd (f v)).advance)) rd (f (Memory.read s.mem pa n)) := by
  refine ⟨_, ?_, s.wroteReg_setReg rd _⟩
  rw [h.load_eq, Res.ok_bind, State.complete_ok]

/-- Settles O10: each instruction is a load with its extension, and the read is its bytes. -/
theorem integerLoadResults : Obligations.IntegerLoadResults := by
  intro s rd rj si12 pa va byte
  have hva : s.effAddr rj si12 = va := s.effAddr_eq_ofInt rj si12
  have h1 : (Memory.read s.mem pa 1 : Byte) = byte 0 := Memory.read_one s.mem pa
  have h2 : (Memory.read s.mem pa 2 : BitVec 16) = byte 1 ++ byte 0 := Memory.read_two s.mem pa
  have h4 : (Memory.read s.mem pa 4 : Word) = byte 3 ++ byte 2 ++ byte 1 ++ byte 0 := Memory.read_four s.mem pa
  rw [← hva, ← h4, ← h2, ← h1]
  exact ⟨fun h => ⟨h.setsReg rd (·.signExtend 32), h.setsReg rd (·.setWidth 32)⟩,
    fun h => ⟨h.setsReg rd (·.signExtend 32), h.setsReg rd (·.setWidth 32)⟩, fun h => h.setsReg rd id⟩

/-- A store that can be made completes. -/
theorem Writable.complete_store {s : State} {va : Word} {n pa : Nat} (h : Writable s va n pa) (v : BitVec (8 * n)) :
    s.complete ((s.store va n v).bind fun t => .ok t.advance) = .next (s.writeMem pa n v).advance := by
  rw [h.store_eq, Res.ok_bind, State.complete_ok]

/-- It stores the value. -/
theorem Writable.stores {s : State} {va : Word} {n pa : Nat} (h : Writable s va n pa) (hn : n ∣ 2 ^ 12)
    (hm : Memory.wf s.mem = true) (v : BitVec (8 * n)) :
    Stores s (s.complete ((s.store va n v).bind fun t => .ok t.advance)) pa n v :=
  ⟨_, h.complete_store v, h.stored hn hm v⟩

/-- Settles O11: each instruction is a store of low bytes of x[rd]. -/
theorem integerStoreResults : Obligations.IntegerStoreResults := by
  intro s rd rj si12 pa hm
  exact ⟨s.effAddr_eq_ofInt rj si12, fun h => h.stores (by decide) hm _, fun h => h.stores (by decide) hm _,
    fun h => h.stores (by decide) hm _⟩

/-! ## LL.W and SC.W that complete -/

/-- Settles O16: the access reads the word and sets the reservation, and then x[rd] is written. -/
theorem loadLinkedResult : Obligations.LoadLinkedResult := by
  intro s rd rj si14 pa va byte halign htrans hallow
  have hword : (Memory.read s.mem pa.toNat 4 : Word) = byte 3 ++ byte 2 ++ byte 1 ++ byte 0 := Memory.read_four s.mem pa.toNat
  have hlinked : s.loadLinked va = .ok (Memory.read s.mem pa.toNat 4, { s with llbit := true, llAddr := pa }) :=
    State.loadLinked_eq_ok.mpr ⟨aligned_eq_true.mpr halign, pa, htrans, hallow, rfl⟩
  refine ⟨_, ?_, State.wroteReg_setReg { s with llbit := true, llAddr := pa } rd _⟩
  show execLlW rd rj si14 s = _
  rw [execLlW, s.llAddrOf_eq_ofInt, hlinked, ← hword, Res.ok_bind, State.complete_ok]

/-- An SC.W whose access completes advances with x[rd] the LLbit it saw (R292). -/
theorem exec_scW {s t : State} {rd rj : GReg} {si14 : BitVec 14} {b : Bool}
    (h : s.storeConditional (s.llAddrOf rj si14) (s.reg rd) = .ok (b, t)) :
    exec (.scW rd rj si14) s = .next (t.setReg rd (boolWord b)).advance := by
  show execScW rd rj si14 s = _
  rw [execScW, h, Res.ok_bind, State.complete_ok]

/-- A register write is one from any pc. -/
theorem WroteReg.from_pc {s t : State} {rd : GReg} {v npc : Word} (h : WroteReg s t rd v npc) (a : Word) :
    WroteReg { s with pc := a } t rd v npc where
  dest := h.dest
  others := h.others
  pc := h.pc
  bytes := h.bytes
  rest := congrArg (fun u : State => { u with pc := a }) h.rest

/-- Settles O17, by LLbit: with 1 the store happens and then x[rd] is written, with 0 only x[rd] is. -/
theorem storeConditionalResult : Obligations.StoreConditionalResult := by
  intro s rd rj si14 pa va hm halign htrans
  refine ⟨s.llAddrOf_eq_ofInt rj si14, fun hll haddr hallow => ?_, fun hll => ?_⟩
  · have hstored := State.storeConditional_eq_ok (v := s.reg rd).mpr
      ⟨aligned_eq_true.mpr halign, pa, htrans, .inl ⟨hll, haddr.symm, hallow, rfl⟩⟩
    have hwrote := State.wroteReg_setReg
      { s.writeMem pa.toNat 4 (s.reg rd) with llbit := Config.freeScLLbit s.draws, draws := s.draws + 1 } rd 1#32
    exact ⟨(s.writeMem pa.toNat 4 (s.reg rd)).advance, _, _, _, exec_scW hstored,
      State.stored_writeMem hm (State.translate_range htrans (by decide) halign) _, hwrote.from_pc (s.pc + 4#32)⟩
  · have hkept := State.storeConditional_eq_ok (v := s.reg rd).mpr
      ⟨aligned_eq_true.mpr halign, pa, htrans, .inr ⟨hll, rfl⟩⟩
    exact ⟨_, _, _, exec_scW hkept, State.wroteReg_setReg _ rd _⟩

/-! ## Accesses that do not complete -/

theorem Res.bind_assoc {α β γ : Type} (r : Res α) (f : α → Res β) (g : β → Res γ) :
    (r.bind f).bind g = r.bind fun a => (f a).bind g := by
  cases r <;> rfl

/-- An access as MemRead and MemWrite begin it (R84, R85): alignment, translation, and then `f`. -/
def State.accessAt {α : Type} (s : State) (va : Word) (k : Access) (n : Nat) (f : PAddr × BitVec 2 → Res α) : Res α :=
  if aligned va n then (s.translate va k).bind f else .raise .ale va

/-- What follows an access is part of what is done with its physical address. -/
theorem State.accessAt_bind {α β : Type} (s : State) (va : Word) (k : Access) (n : Nat) (f : PAddr × BitVec 2 → Res α)
    (g : α → Res β) : (s.accessAt va k n f).bind g = s.accessAt va k n fun pm => (f pm).bind g := by
  unfold State.accessAt
  split
  · exact Res.bind_assoc _ _ _
  · rfl

/-- The instruction that ends so begins with an access of `n` bytes at `va`. -/
def BeginsAccess (s : State) (o : Ending) (va : Word) (k : Access) (n : Nat) : Prop :=
  ∃ f, o = s.complete (s.accessAt va k n f)

/-- It goes on from there only where the platform admits the bytes (R89). -/
def AccessesMemory (s : State) (o : Ending) (va : Word) (k : Access) (n : Nat) : Prop :=
  ∃ f : PAddr × BitVec 2 → Res State,
    o = s.complete (s.accessAt va k n fun pm => (s.plat.allows pm.1.toNat n).bind fun _ => f pm)

theorem AccessesMemory.begins {s : State} {o : Ending} {va : Word} {k : Access} {n : Nat} (h : AccessesMemory s o va k n) :
    BeginsAccess s o va k n := by
  obtain ⟨_, ho⟩ := h
  exact ⟨_, ho⟩

/-- A misaligned access ends in the trap entry of ALE, whatever its translation would be (R83). -/
theorem BeginsAccess.traps_misaligned {s : State} {o : Ending} {va : Word} {k : Access} {n : Nat}
    (h : BeginsAccess s o va k n) (ha : va.toNat % n ≠ 0) : Traps s o .ale va := by
  obtain ⟨f, rfl⟩ := h
  rw [Traps, State.accessAt, if_neg (mt aligned_eq_true.mp ha), State.complete_raise]

/-- What translates first ends as the translation does when that raises or is refused (R90). -/
theorem State.complete_bind_stops (s : State) {α : Type} (r : Res α) (f : α → Res State) :
    (∀ e w, r = .raise e w → Traps s (s.complete (r.bind f)) e w) ∧
      ∀ q, r = .refuse q → s.complete (r.bind f) = .refused q :=
  ⟨fun _ _ h => h ▸ rfl, fun _ h => h ▸ rfl⟩

/-- So does an aligned access. -/
theorem BeginsAccess.stops {s : State} {o : Ending} {va : Word} {k : Access} {n : Nat} (h : BeginsAccess s o va k n)
    (ha : va.toNat % n = 0) :
    (∀ e w, s.translate va k = .raise e w → Traps s o e w) ∧ ∀ q, s.translate va k = .refuse q → o = .refused q := by
  obtain ⟨f, rfl⟩ := h
  rw [State.accessAt, if_pos (aligned_eq_true.mpr ha)]
  exact s.complete_bind_stops _ f

/-- Bytes of memory are admitted one after the other (R89). -/
theorem Platform.allows_add {p : Platform} {a i : Nat} (h : ∀ j < i, p.kindAt (a + j) = some .ram) (m : Nat) :
    p.allows a (m + i) = p.allows (a + i) m := by
  induction i generalizing a with
  | zero => rfl
  | succ i ih =>
    have hfirst : p.kindAt a = some .ram := h 0 (Nat.zero_lt_succ i)
    have hrest : ∀ j < i, p.kindAt (a + 1 + j) = some .ram := fun j hj => by
      rw [Nat.add_right_comm]
      exact h (j + 1) (by omega)
    rw [← Nat.add_assoc m, Platform.allows, hfirst]
    show p.allows (a + 1) (m + i) = _
    rw [ih hrest, Nat.add_right_comm, Nat.add_assoc]

/-- The first byte that is not memory stops the access: one the platform has nothing at is a fault, a device's a refusal
(R89, U30). -/
theorem Platform.allows_stops {p : Platform} {a n i : Nat} (hi : i < n) (h : ∀ j < i, p.kindAt (a + j) = some .ram) :
    (p.kindAt (a + i) = none → p.allows a n = .fault .addressNotAdmitted) ∧
      (p.kindAt (a + i) = some .device → p.allows a n = .refuse .deviceAccess) := by
  obtain ⟨m, rfl⟩ : ∃ m, n = m + 1 + i := ⟨n - i - 1, by omega⟩
  rw [Platform.allows_add h]
  exact ⟨fun hk => by rw [Platform.allows, hk], fun hk => by rw [Platform.allows, hk]⟩

/-- So it stops an aligned access to memory that translates. -/
theorem AccessesMemory.stops {s : State} {o : Ending} {va : Word} {k : Access} {n : Nat} (h : AccessesMemory s o va k n)
    (ha : va.toNat % n = 0) {pa : PAddr} {mat : BitVec 2} (ht : s.translate va k = .ok (pa, mat)) {i : Nat} (hi : i < n)
    (hram : ∀ j < i, s.plat.kindAt (pa.toNat + j) = some .ram) :
    (s.plat.kindAt (pa.toNat + i) = none → o = .fault .addressNotAdmitted) ∧
      (s.plat.kindAt (pa.toNat + i) = some .device → o = .refused .deviceAccess) := by
  obtain ⟨f, rfl⟩ := h
  obtain ⟨hnone, hdevice⟩ := Platform.allows_stops hi hram
  rw [State.accessAt, if_pos (aligned_eq_true.mpr ha), ht, Res.ok_bind]
  exact ⟨fun hk => by rw [hnone hk]; rfl, fun hk => by rw [hdevice hk]; rfl⟩

/-- What asks the platform first, and what follows it, access memory. -/
theorem State.accessesMemory_bind {α : Type} (s : State) (va : Word) (k : Access) (n : Nat) (f : PAddr × BitVec 2 → Res α)
    (g : α → Res State) :
    AccessesMemory s (s.complete ((s.accessAt va k n fun pm => (s.plat.allows pm.1.toNat n).bind fun _ => f pm).bind g))
      va k n := by
  refine ⟨fun pm => (f pm).bind g, ?_⟩
  rw [State.accessAt_bind]
  simp only [Res.bind_assoc]

/-- So a load does (R84). -/
theorem State.accessesMemory_load (s : State) (va : Word) (n : Nat) (g : BitVec (8 * n) → Res State) :
    AccessesMemory s (s.complete ((s.load va n).bind g)) va .load n :=
  s.accessesMemory_bind va .load n (fun pm => .ok (Memory.read s.mem pm.1.toNat n)) g

/-- So does a store (R85). -/
theorem State.accessesMemory_store (s : State) (va : Word) (n : Nat) (v : BitVec (8 * n)) (g : State → Res State) :
    AccessesMemory s (s.complete ((s.store va n v).bind g)) va .store n :=
  s.accessesMemory_bind va .store n (fun pm => .ok (s.writeMem pm.1.toNat n v)) g

/-- With EUEN.FPE = 1 the check of it is no obstacle (R46). -/
theorem AccessesMemory.fp {s : State} (hfpe : s.fpe = true) {r : Res State} {va : Word} {k : Access} {n : Nat}
    (h : AccessesMemory s (s.complete r) va k n) : AccessesMemory s (s.complete (s.fpOnly.bind fun _ => r)) va k n := by
  rwa [State.fpOnly_ok hfpe, Res.ok_bind]

/-- The integer loads and stores access memory as the table says. -/
theorem integerAccesses_accessMemory (s : State) (rd rj : GReg) (si12 : BitVec 12) :
    ∀ p ∈ integerAccesses rd rj si12, AccessesMemory s (exec p.1 s) (s.effAddr rj si12) p.2.2 p.2.1 := by
  simp only [integerAccesses, List.forall_mem_cons, List.not_mem_nil, false_imp_iff, implies_true, and_true]
  exact ⟨s.accessesMemory_load _ _ _, s.accessesMemory_load _ _ _, s.accessesMemory_load _ _ _, s.accessesMemory_load _ _ _,
    s.accessesMemory_load _ _ _, s.accessesMemory_store _ _ _ _, s.accessesMemory_store _ _ _ _,
    s.accessesMemory_store _ _ _ _⟩

/-- With EUEN.FPE = 1 so do the floating-point ones. -/
theorem fpAccesses_accessMemory {s : State} (hfpe : s.fpe = true) (fd : FReg) (rj : GReg) (si12 : BitVec 12) :
    ∀ p ∈ fpAccesses fd rj si12, AccessesMemory s (exec p.1 s) (s.effAddr rj si12) p.2.2 p.2.1 := by
  simp only [fpAccesses, List.forall_mem_cons, List.not_mem_nil, false_imp_iff, implies_true, and_true]
  exact ⟨(s.accessesMemory_load _ _ _).fp hfpe, (s.accessesMemory_load _ _ _).fp hfpe,
    (s.accessesMemory_store _ _ _ _).fp hfpe, (s.accessesMemory_store _ _ _ _).fp hfpe⟩

/-- The loads and stores that get past the check of EUEN.FPE are these. -/
theorem enabledAccesses_accessMemory (s : State) (rd : GReg) (fd : FReg) (rj : GReg) (si12 : BitVec 12) :
    ∀ p ∈ s.enabledAccesses rd fd rj si12, AccessesMemory s (exec p.1 s) (s.effAddr rj si12) p.2.2 p.2.1 := by
  intro p hp
  rcases List.mem_append.mp hp with hp | hp
  · exact integerAccesses_accessMemory s rd rj si12 p hp
  · split_ifs at hp with hfpe
    · exact fpAccesses_accessMemory hfpe fd rj si12 p hp
    · cases hp

/-- LL.W begins with a load of a word, before it looks at the access type (R291). -/
theorem beginsAccess_llW (s : State) (rd rj : GReg) (si14 : BitVec 14) :
    BeginsAccess s (exec (.llW rd rj si14) s) (s.llAddrOf rj si14) .load 4 :=
  ⟨_, congrArg s.complete (s.accessAt_bind _ _ _ _ _)⟩

/-- SC.W begins with a store of one, before it looks at LLbit (R292). -/
theorem beginsAccess_scW (s : State) (rd rj : GReg) (si14 : BitVec 14) :
    BeginsAccess s (exec (.scW rd rj si14) s) (s.llAddrOf rj si14) .store 4 :=
  ⟨_, congrArg s.complete (s.accessAt_bind _ _ _ _ _)⟩

/-- A lookup CACOP at PLV 0 translates as a load and advances (R470). -/
theorem exec_cacop_lookup {s : State} (hplv : s.plv = 0#2) {code : BitVec 5} (hop : code.extractLsb' 3 2 = 2#2)
    (hcache : code.toNat % 8 ≤ 2) (rj : GReg) (si12 : BitVec 12) : exec (.cacop code rj si12) s =
      s.complete ((s.translate (s.effAddr rj si12) .load).bind fun _ => .ok s.advance) := by
  have hlow : (code.extractLsb' 0 3).toNat = code.toNat % 8 := by rw [BitVec.extractLsb'_toNat, Nat.shiftRight_zero]
  have hdefined : ¬ (code.extractLsb' 3 2 = 3#2 ∨ 2 < (code.extractLsb' 0 3).toNat) := by
    rw [hop, hlow]
    exact not_or.mpr ⟨by decide, by omega⟩
  show execCacop code rj si12 s = _
  rw [execCacop, State.kernelOnly_ok hplv, Res.ok_bind, if_neg hdefined, if_pos hop]

/-- Settles O13: all of them begin with an access, and a misaligned one raises ALE. -/
theorem misalignedAccessTraps : Obligations.MisalignedAccessTraps := by
  intro s rd rj fd si12 si14
  refine ⟨fun p hp ha => ?_, fun hfpe p hp ha => ?_, fun ha => ⟨?_, ?_⟩⟩
  · exact (integerAccesses_accessMemory s rd rj si12 p hp).begins.traps_misaligned ha
  · exact (fpAccesses_accessMemory hfpe fd rj si12 p hp).begins.traps_misaligned ha
  · exact (beginsAccess_llW s rd rj si14).traps_misaligned ha
  · exact (beginsAccess_scW s rd rj si14).traps_misaligned ha

/-- Settles O14: what begins with an aligned access stops where its translation does, and what accesses memory also at the
first byte that is none. -/
theorem translationExceptionsAreTaken : Obligations.TranslationExceptionsAreTaken := by
  intro s rd rj fd si12 si14 code ends
  have haccess := enabledAccesses_accessMemory s rd fd rj si12
  refine ⟨fun p hp ha => ?_, fun ha => ⟨?_, ?_⟩, fun hplv hop hcache => ?_, fun p hp ha pa mat ht i hi hram => ?_⟩
  · exact (haccess p hp).begins.stops ha
  · exact (beginsAccess_llW s rd rj si14).stops ha
  · exact (beginsAccess_scW s rd rj si14).stops ha
  · rw [exec_cacop_lookup hplv hop hcache]
    exact s.complete_bind_stops _ _
  · exact (haccess p hp).stops ha ht hi hram

/-! ## Fetches that do not complete -/

theorem State.fetch_of_aligned {s : State} (h : s.pc.toNat % 4 = 0) : s.fetch =
    (s.translate s.pc .fetch).bind fun pm => (s.plat.allows pm.1.toNat 4).bind fun _ => .ok (s.fetchWord pm.1.toNat) :=
  if_pos (aligned_eq_true.mpr h)

theorem State.fetch_misaligned {s : State} (h : s.pc.toNat % 4 ≠ 0) : s.fetch = .raise .adef s.pc :=
  if_neg (mt aligned_eq_true.mp h)

theorem State.fetchAndRun_of_raise {s : State} {e : Exc} {w : Word} (h : s.fetch = .raise e w) :
    Traps s s.fetchAndRun e w := by
  simp [Traps, State.fetchAndRun, h]

theorem State.fetchAndRun_of_refuse {s : State} {q : Refusal} (h : s.fetch = .refuse q) : s.fetchAndRun = .refused q := by
  simp [State.fetchAndRun, h]

theorem State.fetchAndRun_of_fault {s : State} {q : Fault} (h : s.fetch = .fault q) : s.fetchAndRun = .fault q := by
  simp [State.fetchAndRun, h]

/-- Settles O24: a step that fetches ends as its fetch does, and with a word as the decoder reads it. -/
theorem fetchAndDecodeExceptions : Obligations.FetchAndDecodeExceptions := by
  intro u
  refine ⟨fun h => State.fetchAndRun_of_raise (State.fetch_misaligned h), fun h => ⟨?raises, ?refused, ?stops⟩, ?word⟩
  case raises =>
    intro e w ht
    exact State.fetchAndRun_of_raise (by rw [State.fetch_of_aligned h, ht, Res.raise_bind])
  case refused =>
    intro q ht
    exact State.fetchAndRun_of_refuse (by rw [State.fetch_of_aligned h, ht, Res.refuse_bind])
  case stops =>
    intro pa mat ht i hi hram
    obtain ⟨hnone, hdevice⟩ := Platform.allows_stops hi hram
    have hfetch := State.fetch_of_aligned h
    rw [ht, Res.ok_bind] at hfetch
    refine ⟨fun hk => State.fetchAndRun_of_fault ?_, fun hk => State.fetchAndRun_of_refuse ?_⟩
    · rw [hfetch, hnone hk, Res.fault_bind]
    · rw [hfetch, hdevice hk, Res.refuse_bind]
  case word =>
    intro w t hfetch
    obtain ⟨-, ⟨pa, mat⟩, ht, -, hwt⟩ := State.fetch_eq_ok.mp hfetch
    obtain ⟨hmem, hdraws⟩ := u.fetchWord_spec pa.toNat
    rw [← hwt] at hmem hdraws
    rw [State.fetchAndRun_of_fetch hfetch]
    refine ⟨⟨pa, mat, ht, hmem⟩, hdraws, fun hd => ?_, fun hd => ?_, fun i hd => State.runWord_of_instr hd⟩
    · simp [Traps, State.runWord, hd]
    · simp [State.runWord, hd]

/-! ## What a fetch sees of stores -/

/-- A fetch whose bytes are those of a memory reads that memory's word. -/
theorem Unseen.read_eq_read {m m' : List Host.Cell} {l : List StoreRecord} {own ext a n : Nat}
    (h : ∀ i < n, Unseen.byte (a + i) l own ext (Memory.byte m (a + i)) = Memory.byte m' (a + i)) :
    Unseen.read m l own ext a n = Memory.read m' a n := by
  induction n generalizing a with
  | zero => rfl
  | succ n ih =>
    have hfirst : Unseen.byte a l own ext (Memory.byte m a) = Memory.byte m' a := h 0 (Nat.zero_lt_succ n)
    have hrest : ∀ i < n, Unseen.byte (a + 1 + i) l own ext (Memory.byte m (a + 1 + i)) = Memory.byte m' (a + 1 + i) :=
      fun i hi => by
        rw [Nat.add_assoc, Nat.add_comm 1]
        exact h (i + 1) (by omega)
    rw [Unseen.read, Memory.read_succ, hfirst, ih hrest]

/-- Byte i of a fetch is the byte at address a + i as the fetch finds it. -/
theorem Unseen.extract_read (m : List Host.Cell) (l : List StoreRecord) (own ext : Nat) {a n i : Nat} (hi : i < n) :
    (Unseen.read m l own ext a n).extractLsb' (8 * i) 8 = Unseen.byte (a + i) l own ext (Memory.byte m (a + i)) := by
  induction n generalizing a i with
  | zero => omega
  | succ n ih =>
    rw [Unseen.read]
    cases i with
    | zero => exact BitVec.extractLsb'_append_eq_right
    | succ i =>
      have hskip : 8 * (i + 1) - 8 = 8 * i := by omega
      have hnext : a + 1 + i = a + (i + 1) := by omega
      rw [BitVec.extractLsb'_append_eq_of_le (by omega), hskip, ih (Nat.lt_of_succ_lt_succ hi), hnext]

/-- With one store unseen, a fetch finds of a byte what was there before it or what is there now. -/
theorem Unseen.byte_singleton (a : Nat) (r : StoreRecord) (own ext : Nat) (now : Byte) :
    Unseen.byte a [r] own ext now =
      if (if r.own then own else ext) = 0 then now else (r.before.lookup a).getD now := by
  obtain ⟨_ | _, before⟩ := r
  · cases ext <;> simp [Unseen.byte]
  · cases own <;> simp [Unseen.byte]

/-- With one store unseen that touches the word, a fetch may return the word as it was before it or as it is (R104). -/
theorem State.mem_fetchable_of_single {t : State} {m : List Host.Cell} {r : StoreRecord} {pa : Nat} (hunseen : t.unseen = [r])
    (htouch : r.touches pa 4 = true)
    (hbefore : ∀ i < 4, (r.before.lookup (pa + i)).getD (Memory.byte t.mem (pa + i)) = Memory.byte m (pa + i)) (w : Word) :
    w ∈ t.fetchable pa ↔ w = Memory.read m pa 4 ∨ w = Memory.read t.mem pa 4 := by
  have hfilter : t.unseen.filter (·.touches pa 4) = [r] := by rw [hunseen, List.filter_singleton, htouch]; rfl
  have hold : ∀ {own ext}, (if r.own then own else ext) ≠ 0 → Unseen.read t.mem [r] own ext pa 4 = Memory.read m pa 4 :=
    fun hne => Unseen.read_eq_read fun i hi => by rw [Unseen.byte_singleton, if_neg hne, hbefore i hi]
  have hnow : ∀ {own ext}, (if r.own then own else ext) = 0 → Unseen.read t.mem [r] own ext pa 4 = Memory.read t.mem pa 4 :=
    fun hz => Unseen.read_eq_read fun i _ => by rw [Unseen.byte_singleton, if_pos hz]
  rw [State.mem_fetchable, hfilter]
  constructor
  · rintro ⟨own, ext, -, -, rfl⟩
    by_cases hz : (if r.own then own else ext) = 0
    · exact .inr (hnow hz)
    · exact .inl (hold hz)
  · rintro (rfl | rfl)
    · exact ⟨1, 1, Nat.le_refl 1, Nat.le_refl 1, (hold (by rw [ite_self]; decide)).symm⟩
    · exact ⟨0, 0, Nat.zero_le 1, Nat.zero_le 1, (hnow (ite_self 0)).symm⟩

/-- Where no record holds a byte of the word, a fetch returns the word in memory and no other. -/
theorem State.mem_fetchable_of_untouched {s : State} {pa : Nat}
    (h : ∀ i < 4, ∀ r ∈ s.unseen, r.before.lookup (pa + i) = none) (w : Word) :
    w ∈ s.fetchable pa ↔ w = Memory.read s.mem pa 4 :=
  ⟨State.fetchable_of_untouched (fun r hr i hi => h i hi r hr) w, fun hw => hw ▸ s.read_mem_fetchable pa⟩

/-- Where no record holds one byte of it, the word fetched has that byte as memory holds it. -/
theorem State.extract_fetchable {s : State} {pa i : Nat} {w : Word} (hw : w ∈ s.fetchable pa) (hi : i < 4)
    (h : ∀ r ∈ s.unseen, r.before.lookup (pa + i) = none) :
    w.extractLsb' (8 * i) 8 = Memory.byte s.mem (pa + i) := by
  obtain ⟨own, ext, -, -, rfl⟩ := State.mem_fetchable.mp hw
  exact (Unseen.extract_read s.mem _ own ext hi).trans
    (Unseen.byte_of_untouched (fun r hr => h r (List.mem_of_mem_filter hr)) ..)

/-- A record of the bytes of a range touches every range that holds the first of them. -/
theorem StoreRecord.touches_cells (own : Bool) (m : List Host.Cell) {a b n k : Nat} (hk : 0 < k) (hb : a ≤ b) (hb' : b < a + n) :
    (⟨own, Memory.cells m b k⟩ : StoreRecord).touches a n = true := by
  obtain ⟨k, rfl⟩ := Nat.exists_eq_succ_of_ne_zero hk.ne'
  simp [StoreRecord.touches, Memory.cells, hb, hb']

/-- Every store of the external agent to the byte has one of this core after it: the newest store is first. -/
def Unseen.OwnLast (a : Nat) (records : List StoreRecord) : Prop :=
  ∀ l r l', records = l ++ r :: l' → r.own = false → (r.before.lookup a).isSome →
    ∃ q ∈ l, q.own = true ∧ (q.before.lookup a).isSome

/-- A newest record that is no store of this core to the byte does not decide. -/
theorem Unseen.OwnLast.tail {a : Nat} {q : StoreRecord} {rs : List StoreRecord} (h : Unseen.OwnLast a (q :: rs))
    (hq : ¬ (q.own = true ∧ (q.before.lookup a).isSome)) : Unseen.OwnLast a rs := by
  intro l r l' heq hr hsome
  obtain ⟨p, hp, hown⟩ := h (q :: l) r l' (by rw [heq, List.cons_append]) hr hsome
  rcases List.mem_cons.mp hp with rfl | hp
  · exact absurd hown hq
  · exact ⟨p, hp, hown⟩

/-- After an IBAR no record holds a byte that this core stored to last, or that no other agent stored to (R102, R297). -/
theorem Unseen.OwnLast.sync {a : Nat} {records : List StoreRecord} (h : Unseen.OwnLast a records) :
    ∀ q ∈ Unseen.sync records, q.before.lookup a = none := by
  induction records with
  | nil => simp [Unseen.sync]
  | cons r rs ih =>
    by_cases hown : r.own = true ∧ (r.before.lookup a).isSome
    · exact Unseen.sync_own hown.1 hown.2
    · have hrs := ih (h.tail hown)
      unfold Unseen.sync
      split
      · intro q hq
        obtain ⟨p, hp, rfl⟩ := List.mem_map.mp hq
        rw [StoreRecord.lookup_without, hrs p hp, ite_self]
      · next hext =>
        have hfirst : r.before.lookup a = none := by
          by_contra hsome
          obtain ⟨q, hq, -⟩ := h [] r rs rfl (Bool.not_eq_true _ ▸ hext) (Option.isSome_iff_ne_none.mpr hsome)
          cases hq
        exact List.forall_mem_cons.mpr ⟨hfirst, hrs⟩

/-- A write of one byte leaves every other byte as it was, in any list. -/
theorem Memory.byte_setByte_of_ne (m : List Host.Cell) {a b : Nat} (v : Byte) (hb : b ≠ a) :
    Memory.byte (Memory.setByte m a v) b = Memory.byte m b := by
  induction m with
  | nil =>
    unfold Memory.setByte
    split_ifs
    · rfl
    · rw [Memory.byte_cons, if_neg hb]
  | cons c t ih =>
    obtain ⟨k, w⟩ := c
    unfold Memory.setByte
    split_ifs with hlt hv heq hv
    · rfl
    · rw [Memory.byte_cons, if_neg hb]
    · rw [Memory.byte_cons, if_neg (heq ▸ hb)]
    · rw [Memory.byte_cons, Memory.byte_cons, if_neg (heq ▸ hb), if_neg (heq ▸ hb)]
    · rw [Memory.byte_cons, Memory.byte_cons, ih]

/-- The word written is the word read back (R81). -/
theorem Memory.read_write_self {m : List Host.Cell} (h : Memory.wf m = true) {a : Nat} (v : Word) (ha : a + 4 ≤ 2 ^ 36) :
    Memory.read (Memory.write m a 4 v) a 4 = v :=
  (Memory.read_write h (n := 4) v ha (j := 0) (Nat.le_refl 4)).trans BitVec.extractLsb'_eq_self

/-- IBAR (R297). -/
theorem exec_ibar {s u : State} {hint : BitVec 15} (h : exec (.ibar hint) s = .next u) :
    u = { s with unseen := Unseen.sync s.unseen }.advance :=
  (Host.Outcome.next.inj h).symm

/-- After ST.W with no other store unseen a fetch may return the old word or the new one (R104). -/
theorem State.mem_fetchable_writeMem {s : State} (hm : Memory.wf s.mem = true) (hs : s.unseen = []) {pa : Nat}
    (hr : pa + 4 ≤ 2 ^ 36) (v w : Word) :
    w ∈ (s.writeMem pa 4 v).advance.fetchable pa ↔ w = Memory.read s.mem pa 4 ∨ w = v := by
  have hnew : Memory.read (s.writeMem pa 4 v).advance.mem pa 4 = v := Memory.read_write_self hm v hr
  have hunseen : (s.writeMem pa 4 v).advance.unseen = [⟨true, Memory.cells s.mem pa 4⟩] := by simp [hs]
  rw [State.mem_fetchable_of_single (m := s.mem) hunseen (StoreRecord.touches_cells true s.mem (by omega) (by omega) (by omega)),
    hnew]
  intro i hi
  rw [Memory.lookup_cells, if_pos (by omega), Option.getD_some]

/-- After ST.W and an IBAR it returns the new one, whatever was unseen before (R102). -/
theorem State.mem_fetchable_sync_writeMem {s u : State} (hm : Memory.wf s.mem = true) {pa : Nat} (hr : pa + 4 ≤ 2 ^ 36)
    {v : Word} (hmem : u.mem = (s.writeMem pa 4 v).mem) (hunseen : u.unseen = Unseen.sync (s.writeMem pa 4 v).unseen)
    (w : Word) : w ∈ u.fetchable pa ↔ w = v := by
  have hnew : Memory.read u.mem pa 4 = v := by rw [hmem]; exact Memory.read_write_self hm v hr
  rw [State.mem_fetchable_of_untouched, hnew]
  intro i hi r hrec
  rw [hunseen, State.writeMem_unseen] at hrec
  refine Unseen.sync_own rfl ?_ r hrec
  rw [Memory.lookup_cells, if_pos (by omega), Option.isSome_some]

/-- After a store of the external agent with no store unseen a fetch of the word may return the old one or the new one. -/
theorem State.mem_fetchable_externalStore {s : State} {c : PAddr × Byte} (hs : s.unseen = [])
    (hram : s.plat.kindAt c.1.toNat = some .ram) {pa : Nat} (hlo : pa ≤ c.1.toNat) (hhi : c.1.toNat < pa + 4) (w : Word) :
    w ∈ (s.externalStore c).fetchable pa ↔
      w = Memory.read s.mem pa 4 ∨ w = Memory.read (s.externalStore c).mem pa 4 := by
  have hmem : (s.externalStore c).mem = Memory.setByte s.mem c.1.toNat c.2 := by rw [State.externalStore, if_pos hram]
  have hunseen : (s.externalStore c).unseen = [⟨false, Memory.cells s.mem c.1.toNat 1⟩] := by
    rw [State.externalStore, if_pos hram, ← hs]
  refine State.mem_fetchable_of_single hunseen (StoreRecord.touches_cells false s.mem Nat.one_pos hlo hhi) (fun i hi => ?_) w
  rw [Memory.lookup_cells, hmem]
  split_ifs with hc
  · rfl
  · exact Memory.byte_setByte_of_ne s.mem c.2 (by omega)

/-- Settles O15: the hints and barriers by what they run, a fetch by which records hold its bytes. -/
theorem hintsBarriersAndFetchVisibility : Obligations.HintsBarriersAndFetchVisibility := by
  intro s pa
  refine ⟨?hints, ?stored, ?barrier, ?external, s.fetchWord_spec pa⟩
  case hints =>
    intro hint5 rj si12 hint
    exact ⟨⟨_, rfl, s.wentTo_advance⟩, ⟨_, rfl, s.wentTo_advance⟩,
      ⟨_, _, rfl, State.wentTo_advance { s with unseen := Unseen.sync s.unseen }⟩⟩
  case stored =>
    intro rd rj si12 hint t u hm hw ht hu
    have hr : pa + 4 ≤ 2 ^ 36 := Readable.range_end hw (by decide)
    obtain rfl := Host.Outcome.next.inj ((hw.complete_store (s.reg rd)).symm.trans ht)
    obtain rfl := exec_ibar hu
    exact ⟨fun hs => State.mem_fetchable_writeMem hm hs hr _, State.mem_fetchable_sync_writeMem hm hr rfl rfl⟩
  case barrier =>
    intro hint u hu
    obtain rfl := exec_ibar hu
    constructor
    · intro i hi (hlast : Unseen.OwnLast (pa + i) s.unseen) w hw
      exact (State.extract_fetchable hw hi hlast.sync :)
    · intro hown
      refine State.mem_fetchable_of_untouched fun i _ => Unseen.OwnLast.sync fun l r l' heq hext => ?_
      have hr : r ∈ s.unseen := by rw [heq]; simp
      simp [hown r hr] at hext
  case external =>
    intro c hs hram hlo hhi
    exact State.mem_fetchable_externalStore hs hram hlo hhi

end Sys2Proof.Machine

/-! ## The decoder and the encoder are inverse (30_encoding.md, R120 to R130) -/

namespace Sys2Proof.Decode
open Sys2Proof.Encode

/-! ### The opcode tables as one list -/

/-- The tables in the order the decoder tries them, each with the lowest bit of its opcodes (R126). -/
def tables : List (Nat × List Entry) :=
  [(26, opcodes26), (25, opcodes25), (24, opcodes24), (22, opcodes22), (20, opcodes20), (15, opcodes15), (10, opcodes10)]

/-- What a list of tables, tried one after another, makes of a word (R125). -/
def readBy (w : Word) : List (Nat × List Entry) → Decoded
  | [] => .reserved
  | t :: ts =>
    match find t.2 t.1 w with
    | some f => f w
    | none => readBy w ts

theorem decodeWord_eq_readBy (w : Word) : decodeWord w = readBy w tables := rfl

/-- The first table that holds an entry for the word reads it. -/
theorem readBy_of_findSome? {w : Word} {ts : List (Nat × List Entry)} {f : Word → Decoded}
    (h : ts.findSome? (fun t => find t.2 t.1 w) = some f) : readBy w ts = f w := by
  induction ts with
  | nil => cases h
  | cons t ts ih =>
    rw [List.findSome?_cons] at h
    rw [readBy]
    split at h
    · next heq => rw [heq, Option.some.inj h]
    · next heq => rw [heq, ih h]

/-- A word that is an instruction was found in one of the tables. -/
theorem exists_find_of_readBy {w : Word} {ts : List (Nat × List Entry)} {i : Instr} (h : readBy w ts = .instr i) :
    ∃ t ∈ ts, ∃ f, find t.2 t.1 w = some f ∧ f w = .instr i := by
  induction ts with
  | nil => cases h
  | cons t ts ih =>
    rw [readBy] at h
    split at h
    · next f heq => exact ⟨t, List.mem_cons_self, f, heq, h⟩
    · obtain ⟨t', ht', hf⟩ := ih h
      exact ⟨t', List.mem_cons_of_mem t ht', hf⟩

/-- A table is searched for the bits of the word from its lowest opcode bit up. -/
theorem find_eq_lookup (table : List Entry) (lo : Nat) (w : Word) : find table lo w = table.lookup (w.toNat / 2 ^ lo) := by
  have hbits : w.toNat / 2 ^ lo < 2 ^ (32 - lo) := by
    rw [Nat.div_lt_iff_lt_mul (by positivity), ← pow_add]
    exact w.isLt.trans_le (Nat.pow_le_pow_right (by omega) (by omega))
  rw [find, BitVec.extractLsb'_toNat, Nat.shiftRight_eq_div_pow, Nat.mod_eq_of_lt hbits]

/-- The row of an opcode whose lowest bit is bit `lo`: the first one in the tables of opcodes at most as long. -/
def rowOf (lo op : Nat) : Option (Word → Decoded) :=
  (tables.takeWhile (lo ≤ ·.1)).findSome? fun t => t.2.lookup (op / 2 ^ (t.1 - lo))

/-- A word with the opcode of a row is read by that row: no table of shorter opcodes holds another one for it (R125). -/
theorem decodeWord_of_rowOf {w : Word} {lo n : Nat} {op : BitVec n} (hop : w.extractLsb' lo n = op) (hn : lo + n = 32)
    {f : Word → Decoded} (hrow : rowOf lo op.toNat = some f) : decodeWord w = f w := by
  have hbits : op.toNat = w.toNat / 2 ^ lo := by
    rw [← hop, BitVec.extractLsb'_toNat, Nat.shiftRight_eq_div_pow, Nat.mod_eq_of_lt]
    rw [Nat.div_lt_iff_lt_mul (by positivity), ← pow_add, Nat.add_comm n, hn]
    exact w.isLt
  have hfind : (tables.takeWhile (lo ≤ ·.1)).findSome? (fun t => find t.2 t.1 w) = some f := by
    rw [← hrow, rowOf, hbits, ← List.head?_filterMap, ← List.head?_filterMap]
    refine congrArg List.head? (List.filterMap_congr fun t ht => ?_)
    have hlo : lo ≤ t.1 := by simpa using List.mem_takeWhile_imp ht
    rw [find_eq_lookup, Nat.div_div_eq_div_mul, ← pow_add, Nat.add_sub_of_le hlo]
  have hall : tables.findSome? (fun t => find t.2 t.1 w) = some f := by
    rw [← List.takeWhile_append_dropWhile (p := (lo ≤ ·.1)) (l := tables), List.findSome?_append, hfind, Option.some_or]
  exact (decodeWord_eq_readBy w).trans (readBy_of_findSome? hall)

/-- A word that is an instruction has the opcode of an entry of a table, and that entry reads it. -/
theorem exists_entry_of_decodeWord {w : Word} {i : Instr} (h : decodeWord w = .instr i) :
    ∃ t ∈ tables, ∃ e ∈ t.2, w.toNat / 2 ^ t.1 = e.1 ∧ e.2 w = .instr i := by
  obtain ⟨t, ht, f, hfind, hf⟩ := exists_find_of_readBy ((decodeWord_eq_readBy w).symm.trans h)
  rw [find_eq_lookup, List.lookup_eq_some_iff] at hfind
  obtain ⟨before, after, heq, -⟩ := hfind
  exact ⟨t, ht, (_, f), by simp [heq], rfl, hf⟩

end Sys2Proof.Decode

/-! ### What the rows of each format read from a word of that format -/

namespace Sys2Proof.Decode
open Sys2Proof.Encode

section RowsOfAFormat
variable {i12 : BitVec 12} {i14 : BitVec 14} {i15 : BitVec 15} {o16 : BitVec 16} {i20 : BitVec 20}
  {o26 : BitVec 26} {a k j d : BitVec 5} {c : CReg}

theorem decodeWord_f3R {op : BitVec 17} {mk : BitVec 5 → BitVec 5 → BitVec 5 → Instr}
    (hrow : rowOf 15 op.toNat = some fun w => .instr (mk (rd w) (rj w) (rk w))) :
    decodeWord (f3R op k j d) = .instr (mk d j k) := by
  simp [decodeWord_of_rowOf (f3R_op ..) rfl hrow]

theorem decodeWord_fI15 {op : BitVec 17} {mk : BitVec 15 → Instr}
    (hrow : rowOf 15 op.toNat = some fun w => .instr (mk (imm15 w))) :
    decodeWord (fI15 op i15) = .instr (mk i15) := by
  simp [decodeWord_of_rowOf (fI15_op ..) rfl hrow]

theorem decodeWord_f2R {op : BitVec 22} {mk : BitVec 5 → BitVec 5 → Instr}
    (hrow : rowOf 10 op.toNat = some fun w => .instr (mk (rd w) (rj w))) :
    decodeWord (f2R op j d) = .instr (mk d j) := by
  simp [decodeWord_of_rowOf (f2R_op ..) rfl hrow]

theorem decodeWord_f2Rcd {op : BitVec 22} {mk : CReg → BitVec 5 → Instr}
    (hrow : rowOf 10 op.toNat =
      some fun w => if w.extractLsb' 3 2 = 0#2 then .instr (mk (cd w) (rj w)) else .reserved) :
    decodeWord (f2Rcd op j c) = .instr (mk c j) := by
  simp [decodeWord_of_rowOf (f2Rcd_op ..) rfl hrow]

theorem decodeWord_f2Rcj {op : BitVec 22} {mk : BitVec 5 → CReg → Instr}
    (hrow : rowOf 10 op.toNat =
      some fun w => if w.extractLsb' 8 2 = 0#2 then .instr (mk (rd w) (cj w)) else .reserved) :
    decodeWord (f2Rcj op c d) = .instr (mk d c) := by
  simp [decodeWord_of_rowOf (f2Rcj_op ..) rfl hrow]

theorem decodeWord_f2RI12 {op : BitVec 10} {mk : BitVec 5 → BitVec 5 → BitVec 12 → Instr}
    (hrow : rowOf 22 op.toNat = some fun w => .instr (mk (rd w) (rj w) (imm12 w))) :
    decodeWord (f2RI12 op i12 j d) = .instr (mk d j i12) := by
  simp [decodeWord_of_rowOf (f2RI12_op ..) rfl hrow]

theorem decodeWord_f2RI14 {op : BitVec 8} {mk : BitVec 5 → BitVec 5 → BitVec 14 → Instr}
    (hrow : rowOf 24 op.toNat = some fun w => .instr (mk (rd w) (rj w) (imm14 w))) :
    decodeWord (f2RI14 op i14 j d) = .instr (mk d j i14) := by
  simp [decodeWord_of_rowOf (f2RI14_op ..) rfl hrow]

theorem decodeWord_f1RI20 {op : BitVec 7} {mk : BitVec 5 → BitVec 20 → Instr}
    (hrow : rowOf 25 op.toNat = some fun w => .instr (mk (rd w) (imm20 w))) :
    decodeWord (f1RI20 op i20 d) = .instr (mk d i20) := by
  simp [decodeWord_of_rowOf (f1RI20_op ..) rfl hrow]

theorem decodeWord_f2RI16 {op : BitVec 6} {mk : BitVec 5 → BitVec 5 → BitVec 16 → Instr}
    (hrow : rowOf 26 op.toNat = some fun w => .instr (mk (rj w) (rd w) (offs16 w))) :
    decodeWord (f2RI16 op o16 j d) = .instr (mk j d o16) := by
  simp [decodeWord_of_rowOf (f2RI16_op ..) rfl hrow]

theorem decodeWord_fI26 {op : BitVec 6} {mk : BitVec 26 → Instr}
    (hrow : rowOf 26 op.toNat = some fun w => .instr (mk (offs26 w))) :
    decodeWord (fI26 op o26) = .instr (mk o26) := by
  simp [decodeWord_of_rowOf (fI26_op ..) rfl hrow]

theorem decodeWord_f4R {op : BitVec 12} {mk : BitVec 5 → BitVec 5 → BitVec 5 → BitVec 5 → Instr}
    (hrow : rowOf 20 op.toNat = some fun w => .instr (mk (rd w) (rj w) (rk w) (fa w))) :
    decodeWord (f4R op a k j d) = .instr (mk d j k a) := by
  simp [decodeWord_of_rowOf (f4R_op ..) rfl hrow]

theorem decodeWord_fFcmp {op : BitVec 12} {conds : List (Nat × (CReg → FReg → FReg → Instr))}
    {mk : CReg → FReg → FReg → Instr}
    (hrow : rowOf 20 op.toNat = some fun w => if w.extractLsb' 3 2 = 0#2 then decodeFcmp conds w else .reserved)
    (hcond : conds.lookup a.toNat = some mk) : decodeWord (fFcmp op a k j c) = .instr (mk c j k) := by
  simp [decodeWord_of_rowOf (fFcmp_op ..) rfl hrow, decodeFcmp, hcond]

theorem decodeWord_fFsel {op : BitVec 12} {mk : FReg → FReg → FReg → CReg → Instr}
    (hrow : rowOf 20 op.toNat =
      some fun w => if w.extractLsb' 18 2 = 0#2 then .instr (mk (rd w) (rj w) (rk w) (ca w)) else .reserved) :
    decodeWord (fFsel op c k j d) = .instr (mk d j k c) := by
  simp [decodeWord_of_rowOf (fFsel_op ..) rfl hrow]

end RowsOfAFormat

/-! ### Decoding what the encoder wrote -/

theorem wellFormed_csrxchg {rd rj : GReg} {csr : CsrNum} :
    Instr.wellFormed (.csrxchg rd rj csr) = true ↔ rj ≠ 0#5 ∧ rj ≠ 1#5 := by
  change (rj != 0#5 && rj != 1#5) = true ↔ _
  simp

theorem wellFormed_rdcntid {rj : GReg} : Instr.wellFormed (.rdcntid rj) = true ↔ rj ≠ 0#5 := bne_iff_ne

/-- CSRRD, CSRWR and CSRXCHG share an opcode; the field rj tells them apart (R125). -/
theorem decodeWord_csr (csr : CsrNum) (rj rd : GReg) :
    decodeWord (f2RI14 0x4#8 csr rj rd) =
      if rj = 0#5 then .instr (.csrrd rd csr) else if rj = 1#5 then .instr (.csrwr rd csr)
      else .instr (.csrxchg rd rj csr) := by
  rw [decodeWord_of_rowOf (f2RI14_op ..) rfl rfl]
  simp

/-- RDCNTVL.W and RDCNTID share an opcode; a word with both registers is neither (R129). -/
theorem decodeWord_rdcnt (rj rd : GReg) :
    decodeWord (f2R 0x18#22 rj rd) =
      if rj = 0#5 then .instr (.rdcntvlW rd) else if rd = 0#5 then .instr (.rdcntid rj) else .unspecified := by
  rw [decodeWord_of_rowOf (f2R_op ..) rfl rfl]
  simp

/-- RDCNTVH.W names no register rj (R129). -/
theorem decodeWord_rdcntvh (rd : GReg) : decodeWord (f2R 0x19#22 0#5 rd) = .instr (.rdcntvhW rd) := by
  rw [decodeWord_of_rowOf (f2R_op ..) rfl rfl]
  simp

/-- BCEQZ and BCNEZ share an opcode; the two bits above the flag number tell them apart (R124). -/
theorem decodeWord_bcz (sub : BitVec 2) (cj : CReg) (offs21 : BitVec 21) :
    decodeWord (f1RI21 0x12#6 sub cj offs21) =
      if sub = 0#2 then .instr (.bceqz cj offs21) else if sub = 1#2 then .instr (.bcnez cj offs21) else .reserved := by
  rw [decodeWord_of_rowOf (f1RI21_op ..) rfl rfl]
  simp

/-- The decoder reads a well-formed instruction from the word the encoder writes for it: per format, the row of the
instruction's opcode reads the format's fields back (R125, R130). -/
theorem decodeWord_encode {i : Instr} (hwf : i.wellFormed = true) : decodeWord (encode i) = .instr i := by
  cases i with
  | addW | subW | slt | sltu | mulW | mulhW | mulhWu | divW | divWu | modW | modWu | and | or | nor | xor | sllW | srlW
  | sraW | slliW | srliW | sraiW | faddS | faddD | fsubS | fsubD | fmulS | fmulD | fdivS | fdivD | fmaxS | fmaxD | fminS
  | fminD | fmaxaS | fmaxaD | fminaS | fminaD | fcopysignS | fcopysignD | invtlb => exact decodeWord_f3R rfl
  | dbar | ibar | syscall | brk | idle => exact decodeWord_fI15 rfl
  | fabsS | fabsD | fnegS | fnegD | fsqrtS | fsqrtD | frecipS | frecipD | frsqrtS | frsqrtD | fclassS | fclassD | fcvtSD
  | fcvtDS | ffintSW | ffintDW | ftintWS | ftintWD | ftintrmWS | ftintrmWD | ftintrpWS | ftintrpWD | ftintrzWS | ftintrzWD
  | ftintrneWS | ftintrneWD | fmovS | fmovD | movgr2frW | movgr2frhW | movfr2grS | movfrh2grS | movgr2fcsr | movfcsr2gr =>
    exact decodeWord_f2R rfl
  | movfr2cf | movgr2cf => exact decodeWord_f2Rcd rfl
  | movcf2fr | movcf2gr => exact decodeWord_f2Rcj rfl
  | addiW | slti | sltui | andi | ori | xori | ldB | ldH | ldW | ldBu | ldHu | stB | stH | stW | preld | fldS | fldD | fstS
  | fstD | cacop => exact decodeWord_f2RI12 rfl
  | llW | scW => exact decodeWord_f2RI14 rfl
  | lu12iW | pcaddu12i => exact decodeWord_f1RI20 rfl
  | beq | bne | blt | bge | bltu | bgeu => exact decodeWord_f2RI16 rfl
  | jirl => exact decodeWord_f2RI16 (mk := fun j d o => .jirl d j o) rfl
  | b | bl => exact decodeWord_fI26 rfl
  | fmaddS | fmaddD | fmsubS | fmsubD | fnmaddS | fnmaddD | fnmsubS | fnmsubD => exact decodeWord_f4R rfl
  | fcmpCafS | fcmpSafS | fcmpCltS | fcmpSltS | fcmpCeqS | fcmpSeqS | fcmpCleS | fcmpSleS | fcmpCunS | fcmpSunS | fcmpCultS
  | fcmpSultS | fcmpCueqS | fcmpSueqS | fcmpCuleS | fcmpSuleS | fcmpCneS | fcmpSneS | fcmpCorS | fcmpSorS | fcmpCuneS
  | fcmpSuneS | fcmpCafD | fcmpSafD | fcmpCltD | fcmpSltD | fcmpCeqD | fcmpSeqD | fcmpCleD | fcmpSleD | fcmpCunD | fcmpSunD
  | fcmpCultD | fcmpSultD | fcmpCueqD | fcmpSueqD | fcmpCuleD | fcmpSuleD | fcmpCneD | fcmpSneD | fcmpCorD | fcmpSorD
  | fcmpCuneD | fcmpSuneD => exact decodeWord_fFcmp rfl rfl
  | fsel => exact decodeWord_fFsel rfl
  | bceqz => exact decodeWord_bcz 0#2 _ _
  | bcnez => exact decodeWord_bcz 1#2 _ _
  | csrrd => exact decodeWord_csr _ 0#5 _
  | csrwr => exact decodeWord_csr _ 1#5 _
  | csrxchg rd rj csr =>
    obtain ⟨hrj0, hrj1⟩ := wellFormed_csrxchg.mp hwf
    exact (decodeWord_csr csr rj rd).trans (by rw [if_neg hrj0, if_neg hrj1])
  | rdcntvlW => exact decodeWord_rdcnt 0#5 _
  | rdcntid rj =>
    exact (decodeWord_rdcnt rj 0#5).trans (by rw [if_neg (wellFormed_rdcntid.mp hwf), if_pos rfl])
  | rdcntvhW => exact decodeWord_rdcntvh _
  | tlbsrch | tlbrd | tlbwr | tlbfill | ertn => decide +kernel

end Sys2Proof.Decode

/-! ### A word is its fields put together again -/

namespace Sys2Proof.Encode
open Sys2Proof.Decode

/-- Two neighbouring bit fields of a word, one above the other, are one field. -/
theorem extractLsb'_append_extractLsb' {n hi lo m k : Nat} (w : BitVec n) (h : hi = lo + k) :
    w.extractLsb' hi m ++ w.extractLsb' lo k = w.extractLsb' lo (m + k) := by
  subst h
  apply BitVec.eq_of_getLsbD_eq
  intro i hlt
  rw [BitVec.getLsbD_append, BitVec.getLsbD_extractLsb', BitVec.getLsbD_extractLsb', BitVec.getLsbD_extractLsb']
  by_cases hk : i < k
  · simp [hk, hlt]
  · have hm : i - k < m := by omega
    have hsum : lo + k + (i - k) = lo + i := by omega
    simp [hk, hlt, hm, hsum]

/-- The four bytes of a word are the word (R80). -/
theorem wordOfBytes_bytes (w : Word) :
    wordOfBytes (w.extractLsb' 0 8) (w.extractLsb' 8 8) (w.extractLsb' 16 8) (w.extractLsb' 24 8) = w := by
  rw [wordOfBytes]
  repeat rw [extractLsb'_append_extractLsb' w (by rfl)]
  exact BitVec.extractLsb'_eq_self

section FieldsOfAWord
variable {w : Word}

theorem f3R_fields {op : BitVec 17} (hop : w.extractLsb' 15 17 = op) :
    f3R op (rk w) (rj w) (rd w) = w := by
  rw [← hop, f3R, rk, rj, rd]
  repeat rw [extractLsb'_append_extractLsb' w (by rfl)]
  exact BitVec.extractLsb'_eq_self

theorem f2R_fields {op : BitVec 22} (hop : w.extractLsb' 10 22 = op) :
    f2R op (rj w) (rd w) = w := by
  rw [← hop, f2R, rj, rd]
  repeat rw [extractLsb'_append_extractLsb' w (by rfl)]
  exact BitVec.extractLsb'_eq_self

theorem f2Rcd_fields {op : BitVec 22} (hop : w.extractLsb' 10 22 = op) (hzero : w.extractLsb' 3 2 = 0#2) :
    f2Rcd op (rj w) (cd w) = w := by
  rw [← hop, f2Rcd, ← hzero, rj, cd]
  repeat rw [extractLsb'_append_extractLsb' w (by rfl)]
  exact BitVec.extractLsb'_eq_self

theorem f2Rcj_fields {op : BitVec 22} (hop : w.extractLsb' 10 22 = op) (hzero : w.extractLsb' 8 2 = 0#2) :
    f2Rcj op (cj w) (rd w) = w := by
  rw [← hop, f2Rcj, ← hzero, cj, rd]
  repeat rw [extractLsb'_append_extractLsb' w (by rfl)]
  exact BitVec.extractLsb'_eq_self

theorem f2RI12_fields {op : BitVec 10} (hop : w.extractLsb' 22 10 = op) :
    f2RI12 op (imm12 w) (rj w) (rd w) = w := by
  rw [← hop, f2RI12, imm12, rj, rd]
  repeat rw [extractLsb'_append_extractLsb' w (by rfl)]
  exact BitVec.extractLsb'_eq_self

theorem f2RI14_fields {op : BitVec 8} (hop : w.extractLsb' 24 8 = op) :
    f2RI14 op (imm14 w) (rj w) (rd w) = w := by
  rw [← hop, f2RI14, imm14, rj, rd]
  repeat rw [extractLsb'_append_extractLsb' w (by rfl)]
  exact BitVec.extractLsb'_eq_self

theorem f1RI20_fields {op : BitVec 7} (hop : w.extractLsb' 25 7 = op) :
    f1RI20 op (imm20 w) (rd w) = w := by
  rw [← hop, f1RI20, imm20, rd]
  repeat rw [extractLsb'_append_extractLsb' w (by rfl)]
  exact BitVec.extractLsb'_eq_self

theorem f2RI16_fields {op : BitVec 6} (hop : w.extractLsb' 26 6 = op) :
    f2RI16 op (offs16 w) (rj w) (rd w) = w := by
  rw [← hop, f2RI16, offs16, rj, rd]
  repeat rw [extractLsb'_append_extractLsb' w (by rfl)]
  exact BitVec.extractLsb'_eq_self

theorem fI26_fields {op : BitVec 6} (hop : w.extractLsb' 26 6 = op) :
    fI26 op (offs26 w) = w := by
  rw [← hop, fI26, offs26, BitVec.extractLsb'_append_eq_right, BitVec.extractLsb'_append_eq_left]
  repeat rw [extractLsb'_append_extractLsb' w (by rfl)]
  exact BitVec.extractLsb'_eq_self

theorem f1RI21_fields {op : BitVec 6} {sub : BitVec 2} (hop : w.extractLsb' 26 6 = op) (hsub : w.extractLsb' 8 2 = sub) :
    f1RI21 op sub (cj w) (offs21 w) = w := by
  rw [← hop, ← hsub, f1RI21, cj, offs21, BitVec.extractLsb'_append_eq_right, BitVec.extractLsb'_append_eq_left]
  repeat rw [extractLsb'_append_extractLsb' w (by rfl)]
  exact BitVec.extractLsb'_eq_self

theorem f4R_fields {op : BitVec 12} (hop : w.extractLsb' 20 12 = op) :
    f4R op (fa w) (rk w) (rj w) (rd w) = w := by
  rw [← hop, f4R, fa, rk, rj, rd]
  repeat rw [extractLsb'_append_extractLsb' w (by rfl)]
  exact BitVec.extractLsb'_eq_self

theorem fI15_fields {op : BitVec 17} (hop : w.extractLsb' 15 17 = op) :
    fI15 op (imm15 w) = w := by
  rw [← hop, fI15, imm15]
  repeat rw [extractLsb'_append_extractLsb' w (by rfl)]
  exact BitVec.extractLsb'_eq_self

theorem fFcmp_fields {op : BitVec 12} (hop : w.extractLsb' 20 12 = op) (hzero : w.extractLsb' 3 2 = 0#2) :
    fFcmp op (fa w) (rk w) (rj w) (cd w) = w := by
  rw [← hop, fFcmp, ← hzero, fa, rk, rj, cd]
  repeat rw [extractLsb'_append_extractLsb' w (by rfl)]
  exact BitVec.extractLsb'_eq_self

theorem fFsel_fields {op : BitVec 12} (hop : w.extractLsb' 20 12 = op) (hzero : w.extractLsb' 18 2 = 0#2) :
    fFsel op (ca w) (rk w) (rj w) (rd w) = w := by
  rw [← hop, fFsel, ← hzero, ca, rk, rj, rd]
  repeat rw [extractLsb'_append_extractLsb' w (by rfl)]
  exact BitVec.extractLsb'_eq_self

end FieldsOfAWord

end Sys2Proof.Encode

/-! ### Encoding what the decoder read -/

namespace Sys2Proof.Decode
open Sys2Proof.Encode

/-- The encoder undoes an entry: a word with the entry's opcode that the entry reads as an instruction is the word of that
instruction. -/
def EntrySound (lo : Nat) (e : Entry) : Prop :=
  ∀ (w : Word) (i : Instr), w.toNat / 2 ^ lo = e.1 → e.2 w = .instr i → i.wellFormed = true ∧ encode i = w

/-- The opcode bits of a word, from the quotient that the tables are searched for. -/
theorem extractLsb'_of_div {w : Word} {lo n op : Nat} (h : w.toNat / 2 ^ lo = op) :
    w.extractLsb' lo n = BitVec.ofNat n op := by
  rw [← h, ← Nat.shiftRight_eq_div_pow, BitVec.extractLsb']

/-- An entry that reads an instruction of every word. -/
theorem entrySound_instr {lo n op : Nat} {g : Word → Instr}
    (h : ∀ w, w.extractLsb' lo n = BitVec.ofNat n op → (g w).wellFormed = true ∧ encode (g w) = w) :
    EntrySound lo (op, fun w => .instr (g w)) := by
  rintro w _ hop ⟨⟩
  exact h w (extractLsb'_of_div hop)

/-- An entry that reads an instruction of the words whose unused bits are zero. -/
theorem entrySound_guarded {lo n op zlo zn : Nat} {g : Word → Instr}
    (h : ∀ w, w.extractLsb' lo n = BitVec.ofNat n op → w.extractLsb' zlo zn = BitVec.ofNat zn 0 →
      (g w).wellFormed = true ∧ encode (g w) = w) :
    EntrySound lo (op, fun w => if w.extractLsb' zlo zn = BitVec.ofNat zn 0 then .instr (g w) else .reserved) := by
  intro w i hop hi
  dsimp only at hi
  split_ifs at hi with hzero
  obtain rfl := Decoded.instr.inj hi
  exact h w (extractLsb'_of_div hop) hzero

/-- The entry of FCMP, when each of its conditions is encoded by its number. -/
theorem entrySound_fcmp {op : Nat} {conds : List (Nat × (CReg → FReg → FReg → Instr))}
    (h : ∀ p ∈ conds, ∀ c j k, (p.2 c j k).wellFormed = true ∧
      encode (p.2 c j k) = fFcmp (BitVec.ofNat 12 op) (BitVec.ofNat 5 p.1) k j c) :
    EntrySound 20 (op, fun w => if w.extractLsb' 3 2 = 0#2 then decodeFcmp conds w else .reserved) := by
  intro w i hop hi
  dsimp only [decodeFcmp] at hi
  split_ifs at hi with hzero
  split at hi
  case h_2 => cases hi
  case h_1 mk hlookup =>
    obtain rfl := Decoded.instr.inj hi
    obtain ⟨before, after, heq, -⟩ := List.lookup_eq_some_iff.mp hlookup
    obtain ⟨hwf, henc⟩ := h ((fa w).toNat, mk) (by simp [heq]) (cd w) (rj w) (rk w)
    rw [BitVec.ofNat_toNat, BitVec.setWidth_eq] at henc
    exact ⟨hwf, henc.trans (fFcmp_fields (extractLsb'_of_div hop) hzero)⟩

/-- BCEQZ and BCNEZ, each with its two bits above the flag number (R124). -/
theorem entrySound_bcz : EntrySound 26 (0x12, fun w =>
    if w.extractLsb' 8 2 = 0#2 then .instr (.bceqz (cj w) (offs21 w))
    else if w.extractLsb' 8 2 = 1#2 then .instr (.bcnez (cj w) (offs21 w)) else .reserved) := by
  intro w i hop hi
  dsimp only at hi
  split_ifs at hi with hsub hsub
  · obtain rfl := Decoded.instr.inj hi
    exact ⟨rfl, f1RI21_fields (extractLsb'_of_div hop) hsub⟩
  · obtain rfl := Decoded.instr.inj hi
    exact ⟨rfl, f1RI21_fields (extractLsb'_of_div hop) hsub⟩

/-- CSRRD, CSRWR and CSRXCHG: what is left to CSRXCHG is well-formed (R125). -/
theorem entrySound_csr : EntrySound 24 (0x4, fun w =>
    if rj w = 0#5 then .instr (.csrrd (rd w) (imm14 w)) else if rj w = 1#5 then .instr (.csrwr (rd w) (imm14 w))
    else .instr (.csrxchg (rd w) (rj w) (imm14 w))) := by
  intro w i hop hi
  have hw : f2RI14 0x4#8 (imm14 w) (rj w) (rd w) = w := f2RI14_fields (extractLsb'_of_div hop)
  dsimp only at hi
  split_ifs at hi with hrj0 hrj1
  · obtain rfl := Decoded.instr.inj hi
    exact ⟨rfl, by rwa [hrj0] at hw⟩
  · obtain rfl := Decoded.instr.inj hi
    exact ⟨rfl, by rwa [hrj1] at hw⟩
  · obtain rfl := Decoded.instr.inj hi
    exact ⟨wellFormed_csrxchg.mpr ⟨hrj0, hrj1⟩, hw⟩

/-- RDCNTVL.W and RDCNTID: what is left to RDCNTID is well-formed (R125, R129). -/
theorem entrySound_rdcnt : EntrySound 10 (0x18, fun w =>
    if rj w = 0#5 then .instr (.rdcntvlW (rd w)) else if rd w = 0#5 then .instr (.rdcntid (rj w)) else .unspecified) := by
  intro w i hop hi
  have hw : f2R 0x18#22 (rj w) (rd w) = w := f2R_fields (extractLsb'_of_div hop)
  dsimp only at hi
  split_ifs at hi with hrj hrd
  · obtain rfl := Decoded.instr.inj hi
    exact ⟨rfl, by rwa [hrj] at hw⟩
  · obtain rfl := Decoded.instr.inj hi
    exact ⟨wellFormed_rdcntid.mpr hrj, by rwa [hrd] at hw⟩

theorem entrySound_rdcntvh :
    EntrySound 10 (0x19, fun w => if rj w = 0#5 then .instr (.rdcntvhW (rd w)) else .unspecified) := by
  intro w i hop hi
  have hw : f2R 0x19#22 (rj w) (rd w) = w := f2R_fields (extractLsb'_of_div hop)
  dsimp only at hi
  split_ifs at hi with hrj
  obtain rfl := Decoded.instr.inj hi
  exact ⟨rfl, by rwa [hrj] at hw⟩

/-- A word whose bits below its opcode are zero is its opcode (R128). -/
theorem append_zero_fields {w : Word} {op : BitVec 22} (hop : w.extractLsb' 10 22 = op) (hzero : w.extractLsb' 0 10 = 0#10) :
    op ++ 0#10 = w := by
  rw [← hop, ← hzero, extractLsb'_append_extractLsb' w (by rfl)]
  exact BitVec.extractLsb'_eq_self

theorem opcodes26_sound : ∀ e ∈ opcodes26, EntrySound 26 e := by
  simp only [opcodes26, List.forall_mem_cons, List.not_mem_nil, false_imp_iff, implies_true, and_true]
  refine ⟨entrySound_bcz, ?_, ?_, ?_, ?_, ?_, ?_, ?b, ?bl, ?_⟩
  case b | bl => exact entrySound_instr fun w hop => ⟨rfl, fI26_fields hop⟩
  all_goals exact entrySound_instr fun w hop => ⟨rfl, f2RI16_fields hop⟩

theorem opcodes25_sound : ∀ e ∈ opcodes25, EntrySound 25 e := by
  simp only [opcodes25, List.forall_mem_cons, List.not_mem_nil, false_imp_iff, implies_true, and_true]
  and_intros
  all_goals exact entrySound_instr fun w hop => ⟨rfl, f1RI20_fields hop⟩

theorem opcodes24_sound : ∀ e ∈ opcodes24, EntrySound 24 e := by
  simp only [opcodes24, List.forall_mem_cons, List.not_mem_nil, false_imp_iff, implies_true, and_true]
  refine ⟨?_, ?_, entrySound_csr⟩
  all_goals exact entrySound_instr fun w hop => ⟨rfl, f2RI14_fields hop⟩

theorem opcodes22_sound : ∀ e ∈ opcodes22, EntrySound 22 e := by
  simp only [opcodes22, List.forall_mem_cons, List.not_mem_nil, false_imp_iff, implies_true, and_true]
  and_intros
  all_goals exact entrySound_instr fun w hop => ⟨rfl, f2RI12_fields hop⟩

theorem condsS_encode : ∀ p ∈ condsS, ∀ c j k, (p.2 c j k).wellFormed = true ∧
    encode (p.2 c j k) = fFcmp 0xc1#12 (BitVec.ofNat 5 p.1) k j c := by
  simp only [condsS, List.forall_mem_cons, List.not_mem_nil, false_imp_iff, implies_true, and_true]
  and_intros
  all_goals exact fun c j k => ⟨rfl, rfl⟩

theorem condsD_encode : ∀ p ∈ condsD, ∀ c j k, (p.2 c j k).wellFormed = true ∧
    encode (p.2 c j k) = fFcmp 0xc2#12 (BitVec.ofNat 5 p.1) k j c := by
  simp only [condsD, List.forall_mem_cons, List.not_mem_nil, false_imp_iff, implies_true, and_true]
  and_intros
  all_goals exact fun c j k => ⟨rfl, rfl⟩

theorem opcodes20_sound : ∀ e ∈ opcodes20, EntrySound 20 e := by
  simp only [opcodes20, List.forall_mem_cons, List.not_mem_nil, false_imp_iff, implies_true, and_true]
  refine ⟨?_, ?_, ?_, ?_, ?_, ?_, ?_, ?_, ?fsel, entrySound_fcmp condsS_encode, entrySound_fcmp condsD_encode⟩
  case fsel => exact entrySound_guarded fun w hop hzero => ⟨rfl, fFsel_fields hop hzero⟩
  all_goals exact entrySound_instr fun w hop => ⟨rfl, f4R_fields hop⟩

theorem opcodes15_sound : ∀ e ∈ opcodes15, EntrySound 15 e := by
  simp only [opcodes15, List.forall_mem_cons, List.not_mem_nil, false_imp_iff, implies_true, and_true]
  refine ⟨?_, ?_, ?_, ?_, ?_, ?_, ?_, ?_, ?_, ?_, ?_, ?_, ?_, ?_, ?_, ?_, ?_, ?_, ?_, ?_, ?_,
    ?dbar, ?ibar, ?syscall, ?brk, ?_, ?_, ?_, ?_, ?_, ?_, ?_, ?_, ?_, ?_, ?_, ?_, ?_, ?_, ?_, ?_, ?_, ?_, ?_, ?idle⟩
  case dbar | ibar | syscall | brk | idle => exact entrySound_instr fun w hop => ⟨rfl, fI15_fields hop⟩
  all_goals exact entrySound_instr fun w hop => ⟨rfl, f3R_fields hop⟩

theorem opcodes10_sound : ∀ e ∈ opcodes10, EntrySound 10 e := by
  simp only [opcodes10, List.forall_mem_cons, List.not_mem_nil, false_imp_iff, implies_true, and_true]
  refine ⟨entrySound_rdcnt, entrySound_rdcntvh, ?_, ?_, ?_, ?_, ?_, ?_, ?_, ?_, ?_, ?_, ?_, ?_, ?_, ?_, ?_, ?_, ?_,
    ?_, ?_, ?_, ?_, ?_, ?_, ?_, ?_, ?_, ?_, ?_, ?_, ?_, ?_, ?_, ?_, ?_,
    ?movfr2cf, ?movcf2fr, ?movgr2cf, ?movcf2gr, ?tlbsrch, ?tlbrd, ?tlbwr, ?tlbfill, ?ertn⟩
  case movfr2cf | movgr2cf => exact entrySound_guarded fun w hop hzero => ⟨rfl, f2Rcd_fields hop hzero⟩
  case movcf2fr | movcf2gr => exact entrySound_guarded fun w hop hzero => ⟨rfl, f2Rcj_fields hop hzero⟩
  case tlbsrch | tlbrd | tlbwr | tlbfill | ertn =>
    exact entrySound_guarded fun w hop hzero => ⟨rfl, append_zero_fields hop hzero⟩
  all_goals exact entrySound_instr fun w hop => ⟨rfl, f2R_fields hop⟩

/-- Every entry of every table is undone by the encoder. -/
theorem tables_sound : ∀ t ∈ tables, ∀ e ∈ t.2, EntrySound t.1 e := by
  simp only [tables, List.forall_mem_cons, List.not_mem_nil, false_imp_iff, implies_true, and_true]
  exact ⟨opcodes26_sound, opcodes25_sound, opcodes24_sound, opcodes22_sound, opcodes20_sound, opcodes15_sound,
    opcodes10_sound⟩

/-- An instruction the decoder reads is well-formed, and the word it was read from is its word (R125, R130). -/
theorem encode_of_decodeWord {w : Word} {i : Instr} (h : decodeWord w = .instr i) :
    i.wellFormed = true ∧ encode i = w := by
  obtain ⟨t, ht, e, he, hop, hi⟩ := exists_entry_of_decodeWord h
  exact tables_sound t ht e he w i hop hi

end Sys2Proof.Decode

/-! ### The statements about the encoding -/

namespace Sys2Proof.Machine
open Sys2Proof.Decode Sys2Proof.Encode

/-- The word the encoder writes for a well-formed instruction is that instruction and no other word is (R120). -/
theorem encodes_encode {i : Instr} (hwf : i.wellFormed = true) : Encodes (encode i) i := fun _ =>
  ⟨fun h => (encode_of_decodeWord h).2.symm, fun h => h ▸ decodeWord_encode hwf⟩

/-- From a word's bytes in memory order the decoder reads what the word decodes to (R80, R120). -/
theorem decodeBytes_bytesOfWord {w : Word} {d : Decoded} :
    decodeBytes (bytesOfWord w) = some (d, []) ↔ decodeWord w = d := by
  rw [bytesOfWord, decodeBytes_four, wordOfBytes_bytes]

/-- Settles O53: the word is read by the row of its opcode, and its four bytes are the word again. -/
theorem decodeOfEncode : Obligations.DecodeOfEncode := by
  intro i hwf
  have hword : decodeWord (encode i) = .instr i := decodeWord_encode hwf
  exact ⟨hword, decodeBytes_bytesOfWord.mpr hword⟩

/-- Settles O54: the word was read by an entry of a table, and the encoder undoes every entry. -/
theorem encodeOfDecode : Obligations.EncodeOfDecode := fun _ _ => encode_of_decodeWord

/-- Settles O55: each word is decoded. -/
theorem listedWordsDecode : Obligations.ListedWordsDecode := by
  unfold Obligations.ListedWordsDecode
  decide +kernel

end Sys2Proof.Machine

/-! ### Integer arithmetic: the results as exact integers -/

namespace Sys2Proof.Machine

/-- A register write and the advance set the register, to the value under any other name of it. -/
theorem State.setsReg_setReg (s : State) (rd : GReg) {v w : Word} (h : v = w) :
    SetsReg s (.next (s.setReg rd v).advance) rd w := ⟨_, rfl, h ▸ s.wroteReg_setReg rd v⟩

/-- Words are added, subtracted and multiplied as the signed integers they stand for, modulo 2^32 (R218(a)). -/
theorem add_eq_ofInt (a b : Word) : a + b = BitVec.ofInt 32 (a.toInt + b.toInt) := by
  rw [BitVec.ofInt_add, BitVec.ofInt_toInt, BitVec.ofInt_toInt]

theorem sub_eq_ofInt (a b : Word) : a - b = BitVec.ofInt 32 (a.toInt - b.toInt) := by
  rw [BitVec.sub_eq_add_neg, Int.sub_eq_add_neg, BitVec.ofInt_add, BitVec.ofInt_neg, BitVec.ofInt_toInt, BitVec.ofInt_toInt]

theorem mul_eq_ofInt (a b : Word) : a * b = BitVec.ofInt 32 (a.toInt * b.toInt) := by
  rw [BitVec.ofInt_mul, BitVec.ofInt_toInt, BitVec.ofInt_toInt]

/-- A 20-bit immediate in bits 31:12 is its product with 2^12 (R123). -/
theorem upper20_eq_ofNat (i : BitVec 20) : upper20 i = BitVec.ofNat 32 (i.toNat * 2 ^ 12) := by
  refine BitVec.eq_of_toNat_eq ?_
  have hi : i.toNat < 2 ^ 20 := i.isLt
  rw [upper20, BitVec.toNat_append, BitVec.toNat_zero, Nat.or_zero, Nat.shiftLeft_eq, BitVec.toNat_ofNat,
    Nat.mod_eq_of_lt (by omega)]

theorem add_upper20_eq_ofNat (a : Word) (i : BitVec 20) :
    a + upper20 i = BitVec.ofNat 32 (a.toNat + i.toNat * 2 ^ 12) := by
  rw [BitVec.ofNat_add, BitVec.ofNat_toNat, BitVec.setWidth_eq, upper20_eq_ofNat]

/-- The sign-extended immediate stands for the same integer (R123). -/
theorem toInt_sext12 (i : BitVec 12) : (sext12 i).toInt = i.toInt := BitVec.toInt_signExtend_of_le (by decide)

/-- A comparison as the word 1 or 0 is exact (R205, R206). -/
theorem boolWord_slt (a b : Word) : boolWord (a.slt b) = if a.toInt < b.toInt then 1#32 else 0#32 := by
  simp only [boolWord, BitVec.slt_iff_toInt_lt]

theorem boolWord_ult (a b : Word) : boolWord (a.ult b) = if a.toNat < b.toNat then 1#32 else 0#32 := by
  simp only [boolWord, BitVec.ult_iff_toNat_lt]

/-- Settles O1: each value written is the exact result reduced modulo 2^32, and each word is the encoder's. -/
theorem integerArithmeticResults : Obligations.IntegerArithmeticResults := by
  intro s rd rj rk si12 si20
  refine ⟨s.setsReg_setReg rd (add_eq_ofInt _ _), s.setsReg_setReg rd (sub_eq_ofInt _ _),
    s.setsReg_setReg rd (s.effAddr_eq_ofInt rj si12), s.setsReg_setReg rd (upper20_eq_ofNat si20),
    s.setsReg_setReg rd (add_upper20_eq_ofNat _ si20), s.setsReg_setReg rd (mul_eq_ofInt _ _), ?_⟩
  and_intros
  all_goals exact encodes_encode rfl

/-- Settles O2: the two comparisons are exact, of registers and of a register with the sign-extended immediate. -/
theorem integerComparisonResults : Obligations.IntegerComparisonResults := by
  intro s rd rj rk si12
  have hslti := boolWord_slt (s.reg rj) (sext12 si12)
  rw [toInt_sext12] at hslti
  refine ⟨s.setsReg_setReg rd (boolWord_slt _ _), s.setsReg_setReg rd (boolWord_ult _ _), s.setsReg_setReg rd hslti,
    s.setsReg_setReg rd (boolWord_ult _ (sext12 si12)), ?_⟩
  and_intros
  all_goals exact encodes_encode rfl

/-! ### The two halves of a product -/

/-- A doubleword is its high half times 2^32 plus its low half, which is unsigned in both readings. -/
theorem toInt_halves (p : DWord) :
    (p.extractLsb' 32 32).toInt * 2 ^ 32 + ((p.extractLsb' 0 32).toNat : Int) = p.toInt := by
  conv_rhs => rw [← BitVec.extractLsb'_append_extractLsb' (w := 32) (len := 32) (x := p)]
  rw [BitVec.toInt_append, if_neg (by decide), Int.mul_comm]

theorem toNat_halves (p : DWord) :
    (p.extractLsb' 32 32).toNat * 2 ^ 32 + (p.extractLsb' 0 32).toNat = p.toNat := by
  simp only [BitVec.extractLsb'_toNat]
  omega

/-- The product of two words extended to 64 bits is exact, whether they are extended by their sign or by zeros. -/
theorem toInt_signExtend_mul (a b : Word) : (a.signExtend 64 * b.signExtend 64).toInt = a.toInt * b.toInt := by
  have hlo : -2 ^ 62 ≤ a.toInt * b.toInt := BitVec.le_toInt_mul_toInt
  have hhi : a.toInt * b.toInt ≤ 2 ^ 62 := BitVec.toInt_mul_toInt_le
  rw [BitVec.toInt_mul, BitVec.toInt_signExtend_of_le (by decide), BitVec.toInt_signExtend_of_le (by decide)]
  exact Int.bmod_eq_of_le (by omega) (by omega)

theorem toNat_setWidth_mul (a b : Word) : (a.setWidth 64 * b.setWidth 64).toNat = a.toNat * b.toNat := by
  have hlt : a.toNat * b.toNat < 2 ^ 64 := BitVec.toNat_mul_toNat_lt
  rw [BitVec.toNat_mul, BitVec.toNat_setWidth_of_le (by decide), BitVec.toNat_setWidth_of_le (by decide),
    Nat.mod_eq_of_lt hlt]

/-- The low half of a product is the product of the low halves (R210). -/
theorem mul_low {x y : DWord} {a b : Word} (hx : x.setWidth 32 = a) (hy : y.setWidth 32 = b) :
    (x * y).extractLsb' 0 32 = a * b := by
  rw [← BitVec.setWidth_eq_extractLsb' (by decide), BitVec.setWidth_mul _ _ (by decide), hx, hy]

/-- Either extension of a word keeps the word in its low half. -/
theorem setWidth_signExtend (a : Word) : (a.signExtend 64).setWidth 32 = a := by
  ext i hi
  simp [BitVec.getElem_signExtend, hi, show i < 64 by omega]

theorem setWidth_setWidth (a : Word) : (a.setWidth 64).setWidth 32 = a := by
  rw [BitVec.setWidth_setWidth_of_le a (by decide), BitVec.setWidth_eq]

/-- MULH.W over MUL.W is the signed product, MULH.WU over MUL.W the unsigned one (R218(c)). -/
theorem mulHighSigned_over_mul (a b : Word) :
    (mulHighSigned a b).toInt * 2 ^ 32 + ((a * b).toNat : Int) = a.toInt * b.toInt := by
  rw [mulHighSigned, ← mul_low (setWidth_signExtend a) (setWidth_signExtend b), toInt_halves, toInt_signExtend_mul]

theorem mulHighUnsigned_over_mul (a b : Word) :
    (mulHighUnsigned a b).toNat * 2 ^ 32 + (a * b).toNat = a.toNat * b.toNat := by
  rw [mulHighUnsigned, ← mul_low (setWidth_setWidth a) (setWidth_setWidth b), toNat_halves, toNat_setWidth_mul]

/-- Settles O3: the three words are the halves of the 64-bit products. -/
theorem productHalvesAreExact : Obligations.ProductHalvesAreExact := fun s rd _ _ =>
  ⟨_, _, _, s.setsReg_setReg rd rfl, s.setsReg_setReg rd rfl, s.setsReg_setReg rd rfl,
    mulHighSigned_over_mul _ _, mulHighUnsigned_over_mul _ _⟩

/-! ### Division -/

/-- A division by a divisor that is not 0 writes its result; one by 0 writes the value it draws (R217). -/
theorem State.divResult_of_ne_zero (s : State) (rd : GReg) {divisor : Word} (h : divisor ≠ 0#32) (result : Word) :
    s.divResult rd divisor result = s.setReg rd result := if_neg h

theorem State.divResult_of_eq_zero (s : State) (rd : GReg) {divisor : Word} (h : divisor = 0#32) (result : Word) :
    s.divResult rd divisor result = { s with draws := s.draws + 1 }.setReg rd (Config.freeDiv s.draws) := if_pos h

theorem State.setsReg_divResult_of_ne_zero (s : State) (rd : GReg) {divisor : Word} (h : divisor ≠ 0#32) (result : Word) :
    SetsReg s (.next (s.divResult rd divisor result).advance) rd result := by
  rw [s.divResult_of_ne_zero rd h]
  exact s.setsReg_setReg rd rfl

theorem State.setsReg_divResult_of_eq_zero (s : State) (rd : GReg) {divisor : Word} (h : divisor = 0#32) (result : Word) :
    SetsReg { s with draws := s.draws + 1 } (.next (s.divResult rd divisor result).advance) rd (Config.freeDiv s.draws) := by
  rw [s.divResult_of_eq_zero rd h]
  exact State.setsReg_setReg { s with draws := s.draws + 1 } rd rfl

/-- The remainder of a division rounded toward zero is smaller than the divisor and has the sign of the dividend (R217). -/
theorem abs_tmod_lt (a : Int) {b : Int} (hb : b ≠ 0) : |a.tmod b| < |b| := by
  rw [Int.abs_eq_natAbs, Int.abs_eq_natAbs, Int.natAbs_tmod]
  exact Int.ofNat_lt.mpr (Nat.mod_lt _ (Int.natAbs_pos.mpr hb))

theorem tmod_mul_self_nonneg (a b : Int) : 0 ≤ a.tmod b * a := by
  rcases Int.le_total 0 a with ha | ha
  · exact Int.mul_nonneg (Int.tmod_nonneg b ha) ha
  · have hneg : 0 ≤ -a.tmod b := Int.neg_tmod a b ▸ Int.tmod_nonneg b (by omega)
    exact Int.mul_nonneg_of_nonpos_of_nonpos (by omega) ha

/-- Divisor times quotient plus remainder is the dividend, modulo 2^32, signed and unsigned (R218(b)). -/
theorem mul_divSigned_add_modSigned (a b : Word) : b * divSigned a b + modSigned a b = a := by
  calc b * divSigned a b + modSigned a b
      = BitVec.ofInt 32 (b.toInt * a.toInt.tdiv b.toInt + a.toInt.tmod b.toInt) := by
        rw [BitVec.ofInt_add, BitVec.ofInt_mul, BitVec.ofInt_toInt]; rfl
    _ = a := by rw [Int.mul_tdiv_add_tmod, BitVec.ofInt_toInt]

theorem mul_divUnsigned_add_modUnsigned (a b : Word) : b * divUnsigned a b + modUnsigned a b = a := by
  calc b * divUnsigned a b + modUnsigned a b
      = BitVec.ofNat 32 (b.toNat * (a.toNat / b.toNat) + a.toNat % b.toNat) := by
        rw [BitVec.ofNat_add, BitVec.ofNat_mul, BitVec.ofNat_toNat, BitVec.setWidth_eq]; rfl
    _ = a := by rw [Nat.div_add_mod, BitVec.ofNat_toNat, BitVec.setWidth_eq]

/-- Settles O4: the quotients and remainders are those of the integers the words stand for. -/
theorem divisionResults : Obligations.DivisionResults := by
  intro s rd rj rk hrk
  have hint : (s.reg rk).toInt ≠ 0 := fun h => hrk (BitVec.eq_of_toInt_eq h)
  have hnat : (s.reg rk).toNat ≠ 0 := fun h => hrk (BitVec.eq_of_toNat_eq h)
  exact ⟨(s.reg rj).toInt.tdiv (s.reg rk).toInt, (s.reg rj).toInt.tmod (s.reg rk).toInt,
    (s.reg rj).toNat / (s.reg rk).toNat, (s.reg rj).toNat % (s.reg rk).toNat,
    s.setsReg_divResult_of_ne_zero rd hrk _, s.setsReg_divResult_of_ne_zero rd hrk _,
    s.setsReg_divResult_of_ne_zero rd hrk _, s.setsReg_divResult_of_ne_zero rd hrk _,
    (Int.tdiv_mul_add_tmod _ _).symm, abs_tmod_lt _ hint, tmod_mul_self_nonneg _ _,
    (Nat.div_add_mod' _ _).symm, Nat.mod_lt _ (Nat.pos_of_ne_zero hnat),
    mul_divSigned_add_modSigned _ _, mul_divUnsigned_add_modUnsigned _ _⟩

/-- Settles O5: each of the four is a division whose divisor is 0, and writes the value drawn. -/
theorem divisionByZeroCompletes : Obligations.DivisionByZeroCompletes := by
  intro s rd rj rk hrk
  simp only [List.forall_mem_cons, List.not_mem_nil, false_imp_iff, implies_true, and_true]
  and_intros
  all_goals exact ⟨_, s.setsReg_divResult_of_eq_zero rd hrk _⟩

end Sys2Proof.Machine

/-! ### Logic: the bits of the results -/

namespace Sys2Proof.Machine

/-- Below bit 32 the zero-extended immediate has the bits of the immediate (R123). -/
theorem getLsbD_zext12 (u : BitVec 12) {i : Nat} (hi : i < 32) : (zext12 u).getLsbD i = u.getLsbD i := by
  rw [zext12, BitVec.getLsbD_setWidth, decide_eq_true hi, Bool.true_and]

theorem getLsbD_nor (a b : Word) {i : Nat} (hi : i < 32) :
    (~~~(a ||| b)).getLsbD i = !(a.getLsbD i || b.getLsbD i) := by
  rw [BitVec.getLsbD_not, decide_eq_true hi, Bool.true_and, BitVec.getLsbD_or]

/-- Settles O6: each value written is the bitwise operation of the operands, of which an immediate is extended with zeros. -/
theorem bitwiseLogicResults : Obligations.BitwiseLogicResults := fun s rd _ _ ui12 =>
  ⟨⟨_, s.setsReg_setReg rd rfl, fun _ _ => BitVec.getLsbD_and⟩,
    ⟨_, s.setsReg_setReg rd rfl, fun _ _ => BitVec.getLsbD_or⟩,
    ⟨_, s.setsReg_setReg rd rfl, fun _ hi => getLsbD_nor _ _ hi⟩,
    ⟨_, s.setsReg_setReg rd rfl, fun _ _ => BitVec.getLsbD_xor⟩,
    ⟨_, s.setsReg_setReg rd rfl, fun _ hi => by rw [BitVec.getLsbD_and, getLsbD_zext12 ui12 hi]⟩,
    ⟨_, s.setsReg_setReg rd rfl, fun _ hi => by rw [BitVec.getLsbD_or, getLsbD_zext12 ui12 hi]⟩,
    ⟨_, s.setsReg_setReg rd rfl, fun _ hi => by rw [BitVec.getLsbD_xor, getLsbD_zext12 ui12 hi]⟩⟩

/-! ### Shifts: products and floor quotients by a power of two -/

/-- The amount in a register is its value modulo 32: bits 31:5 do not count (R238). -/
theorem shiftAmount_eq_mod (w : Word) : shiftAmount w = w.toNat % 32 := by
  rw [shiftAmount, BitVec.extractLsb'_toNat, Nat.shiftRight_zero]

theorem shiftLeft_eq_ofNat (a : Word) (n : Nat) : a <<< n = BitVec.ofNat 32 (a.toNat * 2 ^ n) := by
  refine BitVec.eq_of_toNat_eq ?_
  rw [BitVec.toNat_shiftLeft, Nat.shiftLeft_eq, BitVec.toNat_ofNat]

theorem ushiftRight_eq_ofNat (a : Word) (n : Nat) : a >>> n = BitVec.ofNat 32 (a.toNat / 2 ^ n) := by
  rw [← Nat.shiftRight_eq_div_pow, ← BitVec.toNat_ushiftRight, BitVec.ofNat_toNat, BitVec.setWidth_eq]

theorem sshiftRight_eq_ofInt (a : Word) (n : Nat) : a.sshiftRight n = BitVec.ofInt 32 (a.toInt / 2 ^ n) := by
  rw [BitVec.sshiftRight, Int.shiftRight_eq_div_pow]
  norm_cast

/-- Settles O7: each shift by an amount is the product with its power of two or the floor quotient by it, the amount in a
register is its low 5 bits, and each word is the encoder's. -/
theorem shiftResults : Obligations.ShiftResults := by
  intro s rd rj rk ui5 a n
  have hn : shiftAmount (s.reg rk) = n := shiftAmount_eq_mod (s.reg rk)
  refine ⟨s.setsReg_setReg rd (hn ▸ shiftLeft_eq_ofNat a _), s.setsReg_setReg rd (hn ▸ ushiftRight_eq_ofNat a _),
    s.setsReg_setReg rd (hn ▸ sshiftRight_eq_ofInt a _), s.setsReg_setReg rd (shiftLeft_eq_ofNat a _),
    s.setsReg_setReg rd (ushiftRight_eq_ofNat a _), s.setsReg_setReg rd (sshiftRight_eq_ofInt a _), ?_⟩
  and_intros
  all_goals exact encodes_encode rfl

end Sys2Proof.Machine

/-! ### Branches and jumps -/

namespace Sys2Proof.Machine

/-- A base plus a scaled offset of any width is the signed sum, modulo 2^32 (R123, R250). -/
theorem add_scaled_eq_ofInt {n : Nat} (base : Word) (offs : BitVec n) :
    base + scaled offs = BitVec.ofInt 32 (base.toInt + 4 * offs.toInt) := by
  have hscaled : (offs ++ 0#2).toInt = 4 * offs.toInt := BitVec.toInt_append_zero
  rw [BitVec.ofInt_add, BitVec.ofInt_toInt, ← hscaled]
  rfl

/-- A jump sets the pc and nothing else. -/
theorem State.wentTo_jump (s : State) (npc : Word) : WentTo s (s.jump npc) npc := ⟨rfl, fun _ => rfl, rfl⟩

/-- A branch whose test decides `P` goes to its target where `P` holds, else to pc + 4, and does nothing else (R250). -/
theorem State.goesTo_branchIf {n : Nat} (s : State) (offs : BitVec n) {taken : Bool} {P : Prop} [Decidable P]
    (h : taken = true ↔ P) :
    GoesTo s (.next (s.branchIf taken offs))
      (if P then BitVec.ofInt 32 (s.pc.toInt + 4 * offs.toInt) else s.pc + 4#32) := by
  refine ⟨_, rfl, ?_⟩
  by_cases hP : P
  · rw [if_pos hP, State.branchIf, if_pos (h.mpr hP), ← add_scaled_eq_ofInt]
    exact s.wentTo_jump _
  · rw [if_neg hP, State.branchIf, if_neg fun ht => hP (h.mp ht)]
    exact s.wentTo_advance

/-- A jump that writes a link sets the register and goes to the signed sum; base and link are values of before (R22, R250). -/
theorem State.wroteReg_link {n : Nat} (s : State) (rd : GReg) (link base : Word) (offs : BitVec n) :
    WroteReg s ((s.setReg rd link).jump (base + scaled offs)) rd link
      (BitVec.ofInt 32 (base.toInt + 4 * offs.toInt)) :=
  add_scaled_eq_ofInt base offs ▸ s.wroteReg_setReg_jump rd link _

/-- BGE and BGEU test that rj is not less than rd, which is that rd is at most rj (R254, R256). -/
theorem not_slt_iff_toInt_le (a b : Word) : (!a.slt b) = true ↔ b.toInt ≤ a.toInt := by
  rw [← BitVec.sle_eq_not_slt, BitVec.sle_iff_toInt_le]

theorem not_ult_iff_toNat_le (a b : Word) : (!a.ult b) = true ↔ b.toNat ≤ a.toNat := by
  rw [← BitVec.ule_eq_not_ult, BitVec.ule_iff_toNat_le]

/-- Settles O8: each test decides the comparison it is named for, and each word is the encoder's. -/
theorem conditionalBranchTargets : Obligations.ConditionalBranchTargets := by
  intro s rj rd offs16
  refine ⟨s.goesTo_branchIf offs16 beq_iff_eq, s.goesTo_branchIf offs16 bne_iff_ne,
    s.goesTo_branchIf offs16 BitVec.slt_iff_toInt_lt, s.goesTo_branchIf offs16 (not_slt_iff_toInt_le _ _),
    s.goesTo_branchIf offs16 BitVec.ult_iff_toNat_lt, s.goesTo_branchIf offs16 (not_ult_iff_toNat_le _ _), ?_⟩
  and_intros
  all_goals exact encodes_encode rfl

/-- Settles O9: B only jumps, BL and JIRL jump with the link written, each to its base plus the scaled offset. -/
theorem jumpsAndLinks : Obligations.JumpsAndLinks := fun s rd rj offs16 offs26 =>
  ⟨⟨_, rfl, add_scaled_eq_ofInt s.pc offs26 ▸ s.wentTo_jump _⟩,
    ⟨_, rfl, s.wroteReg_link 1#5 _ s.pc offs26⟩, ⟨_, rfl, s.wroteReg_link rd _ (s.reg rj) offs16⟩⟩

end Sys2Proof.Machine

/-! ### The refusals of LL.W, SC.W and the privileged instructions -/

namespace Sys2Proof.Machine

@[simp] theorem State.complete_refuse (s : State) (q : Refusal) : s.complete (.refuse q) = .refused q := rfl

/-- LL.W refuses memory that is not Cached before it asks the platform (R294, U3). -/
theorem State.loadLinked_not_cached {s : State} {va : Word} {pa : PAddr} (halign : va.toNat % 4 = 0)
    (htrans : s.translate va .load = .ok (pa, 0#2)) : s.loadLinked va = .refuse .llscNotCached := by
  rw [State.loadLinked, if_pos (aligned_eq_true.mpr halign), htrans, Res.ok_bind]
  rfl

/-- SC.W refuses it whatever LLbit is (R294, U3). -/
theorem State.storeConditional_not_cached {s : State} {va : Word} {pa : PAddr} (v : Word) (halign : va.toNat % 4 = 0)
    (htrans : s.translate va .store = .ok (pa, 0#2)) : s.storeConditional va v = .refuse .llscNotCached := by
  rw [State.storeConditional, if_pos (aligned_eq_true.mpr halign), htrans, Res.ok_bind]
  rfl

/-- With LLbit = 1 it refuses an address that is not the reserved one (U23). -/
theorem State.storeConditional_not_reserved {s : State} {va : Word} {pa : PAddr} (v : Word) (halign : va.toNat % 4 = 0)
    (htrans : s.translate va .store = .ok (pa, 1#2)) (hll : s.llbit = true) (haddr : pa ≠ s.llAddr) :
    s.storeConditional va v = .refuse .scAddressMismatch := by
  rw [State.storeConditional, if_pos (aligned_eq_true.mpr halign), htrans, Res.ok_bind, if_pos rfl, if_pos hll, if_neg haddr]

theorem exec_llW_refused {s : State} {rj : GReg} {si14 : BitVec 14} {q : Refusal}
    (h : s.loadLinked (s.llAddrOf rj si14) = .refuse q) (rd : GReg) : exec (.llW rd rj si14) s = .refused q := by
  show execLlW rd rj si14 s = _
  rw [execLlW, h, Res.refuse_bind, State.complete_refuse]

theorem exec_scW_refused {s : State} {rd rj : GReg} {si14 : BitVec 14} {q : Refusal}
    (h : s.storeConditional (s.llAddrOf rj si14) (s.reg rd) = .refuse q) : exec (.scW rd rj si14) s = .refused q := by
  show execScW rd rj si14 s = _
  rw [execScW, h, Res.refuse_bind, State.complete_refuse]

/-- At PLV 0 a privileged instruction is refused when what follows the check of the level is (R460). -/
theorem State.kernel_refused {s : State} (hplv : s.plv = 0#2) {r : Res State} {q : Refusal} (hr : r = .refuse q) :
    s.complete (s.kernelOnly.bind fun _ => r) = .refused q := by
  rw [State.kernelOnly_ok hplv, Res.ok_bind, hr, State.complete_refuse]

/-- The entry the TLB CSRs describe is valid after a refill or with NE clear (R484). -/
theorem State.newTlbEntry_valid_iff {s : State} : s.newTlbEntry.e = true ↔ s.ecode = 0x3F#6 ∨ s.tlbNe = false := by
  rw [State.newTlbEntry, Bool.or_eq_true, beq_iff_eq, Bool.not_eq_true']

theorem State.pageSizeLegal_iff {s : State} {ps : BitVec 6} :
    s.pageSizeLegal ps = true ↔ ps = 12#6 ∨ ps ∈ s.plat.largePageSizes := by
  rw [State.pageSizeLegal, Bool.or_eq_true, beq_iff_eq, List.contains_iff_mem]

/-- A valid entry of a page size that is not legal is not written (R484, U31). -/
theorem State.checkedTlbEntry_refused {s : State} (he : s.newTlbEntry.e = true) (hps : ¬ s.pageSizeLegal s.tlbPs = true) :
    s.checkedTlbEntry = .refuse .pageSizeIllegal :=
  if_pos (by rw [he, Bool.true_and, Bool.not_eq_true']; exact eq_false_of_ne_true hps)

/-- The bits of a word from bit 10 upward are not all zero when it is at least 2^10. -/
theorem extractLsb'_ne_zero_of_le {w : Word} (h : 2 ^ 10 ≤ w.toNat) : w.extractLsb' 10 22 ≠ 0#22 := by
  intro hzero
  have hdiv : w.toNat / 2 ^ 10 % 2 ^ 22 = 0 := by
    rw [← Nat.shiftRight_eq_div_pow, ← BitVec.extractLsb'_toNat, hzero]
    rfl
  have := w.isLt
  omega

/-- With all bits under the mask the old word does not count (R462). -/
theorem maskWrite_allOnes (old v : Word) : maskWrite old v 0xFFFFFFFF#32 = v := by
  show maskWrite old v (BitVec.allOnes 32) = v
  rw [maskWrite, BitVec.not_allOnes, BitVec.and_zero, BitVec.zero_or, BitVec.and_allOnes]

/-- A mask cut to its low bits writes those as the whole mask does. -/
theorem extractLsb'_maskWrite_lowMask (old v m : Word) {k n : Nat} (hk : k ≤ n) (hn : n < 32) :
    (maskWrite old v (m &&& lowMask n)).extractLsb' 0 k = (maskWrite old v m).extractLsb' 0 k := by
  apply BitVec.eq_of_getLsbD_eq
  intro i hi
  simp [maskWrite, hi, getLsbD_lowMask hn, hi.trans_le hk]

/-- A write of CRMD that leaves PLV 1 or 2 is refused (R44, U15). -/
theorem State.csrWrite_crmd_refused {s : State} {v m : Word}
    (h : (maskWrite s.csr.crmd v m).extractLsb' 0 2 = 1#2 ∨ (maskWrite s.csr.crmd v m).extractLsb' 0 2 = 2#2) :
    s.csrWrite 0x0#14 v m = .refuse .illegalPlv := by
  have hmask : s.writableBits .crmd = lowMask 9 := show 0x1FF#32 = lowMask 9 by decide
  rw [← extractLsb'_maskWrite_lowMask _ _ _ (show 2 ≤ 9 by decide) (by decide), ← hmask] at h
  rw [State.csrWrite_of_name (r := .crmd) rfl]
  exact if_pos h

/-- Settles O18: each instruction meets its refusal where the model checks for it, the privileged ones after the check of
the level, which PLV 0 passes. -/
theorem specifiedRefusals : Obligations.SpecifiedRefusals := by
  intro s rd rj rk si12 si14 op pa va
  refine ⟨fun ha ht => exec_llW_refused (State.loadLinked_not_cached ha ht) rd,
    fun ha ht => exec_scW_refused (State.storeConditional_not_cached _ ha ht),
    fun ha ht hll hne => exec_scW_refused (State.storeConditional_not_reserved _ ha ht hll hne), fun hplv => ?_⟩
  refine ⟨?cacop, ?index, ?pageSize, ?invtlb, ?ertn, ?csrwr, ?csrxchg⟩
  case cacop =>
    intro h
    have hlow : (op.extractLsb' 0 3).toNat = op.toNat % 8 := by rw [BitVec.extractLsb'_toNat, Nat.shiftRight_zero]
    rw [← hlow] at h
    exact State.kernel_refused hplv (if_pos h)
  case index =>
    intro h
    refine ⟨State.kernel_refused hplv ?_, State.kernel_refused hplv (if_neg (Nat.not_lt.mpr h))⟩
    rw [List.getElem?_eq_none h]
  case pageSize =>
    intro he hbase hlarge
    have hentry := State.checkedTlbEntry_refused (State.newTlbEntry_valid_iff.mpr he)
      (mt State.pageSizeLegal_iff.mp (not_or.mpr ⟨hbase, hlarge⟩))
    refine ⟨State.kernel_refused hplv ?_, fun hindex => State.kernel_refused hplv ((if_pos hindex).trans ?_)⟩
    all_goals rw [hentry, Res.refuse_bind]
  case invtlb =>
    intro hlo hhi hreg
    have hbits := extractLsb'_ne_zero_of_le hreg
    exact State.kernel_refused hplv ((if_neg (Nat.not_lt.mpr hhi)).trans (if_pos ⟨hlo, hbits⟩))
  case ertn => exact fun h => State.kernel_refused hplv (if_pos h)
  case csrwr =>
    intro h
    rw [← maskWrite_allOnes s.csr.crmd (s.reg rd)] at h
    refine State.kernel_refused hplv ?_
    rw [State.csrWrite_crmd_refused h, Res.refuse_bind]
  case csrxchg =>
    intro plv h
    refine State.kernel_refused hplv ?_
    rw [State.csrWrite_crmd_refused h, Res.refuse_bind]

end Sys2Proof.Machine

/-! ### System calls and counter reads -/

namespace Sys2Proof.Machine

/-- `n` bits from bit `k` upward are those of the floor quotient by 2^k. -/
theorem extractLsb'_eq_ofNat {w : Nat} (x : BitVec w) (k n : Nat) :
    x.extractLsb' k n = BitVec.ofNat n (x.toNat / 2 ^ k) := by
  rw [← Nat.shiftRight_eq_div_pow, BitVec.extractLsb']

/-- The low `n` bits are the remainder by 2^n. -/
theorem extractLsb'_zero_eq_ofNat_mod {w : Nat} (x : BitVec w) (n : Nat) :
    x.extractLsb' 0 n = BitVec.ofNat n (x.toNat % 2 ^ n) := by
  rw [extractLsb'_eq_ofNat, Nat.pow_zero, Nat.div_one]
  exact BitVec.eq_of_toNat_eq (Nat.mod_mod _ _).symm

/-- Settles O20: SYSCALL and BREAK only raise, each counter read is one register write, and the two halves of the Stable
Counter are its remainder and its quotient by 2^32. -/
theorem systemCallsAndCounterReads : Obligations.SystemCallsAndCounterReads := fun s rd _ =>
  ⟨s.complete_raise .sys 0#32, s.complete_raise .brk 0#32,
    s.setsReg_setReg rd (extractLsb'_zero_eq_ofNat_mod s.stableCounter 32),
    s.setsReg_setReg rd (extractLsb'_eq_ofNat s.stableCounter 32 32), s.setsReg_setReg rd rfl⟩

end Sys2Proof.Machine

/-! ### Commits of the floating-point instructions -/

namespace Sys2Proof.Machine

/-! ## Fields of fcsr0 -/

/-- A field that was replaced holds its new value. -/
theorem extractLsb'_setField_same {n lo : Nat} (w : Word) (v : BitVec n) (h : lo + n ≤ 32) :
    (setField w lo v).extractLsb' lo n = v := by
  apply BitVec.eq_of_getLsbD_eq
  intro i hi
  rw [BitVec.getLsbD_extractLsb', getLsbD_setField w lo v (by omega), if_pos (by omega), Nat.add_sub_cancel_left]
  simp [hi]

/-- A field that lies apart from the replaced one is as before. -/
theorem extractLsb'_setField_apart {n m lo k : Nat} (w : Word) (v : BitVec n) (hk : k + m ≤ 32) (h : k + m ≤ lo ∨ lo + n ≤ k) :
    (setField w lo v).extractLsb' k m = w.extractLsb' k m := by
  apply BitVec.eq_of_getLsbD_eq
  intro i hi
  rw [BitVec.getLsbD_extractLsb', BitVec.getLsbD_extractLsb', getLsbD_setField w lo v (by omega), if_neg (by omega)]

/-- The bits under a mask that is clear in the replaced field are as before. -/
theorem setField_and_of_clear {n : Nat} (w m : Word) (lo : Nat) (v : BitVec n) (h : ∀ i < n, m.getLsbD (lo + i) = false) :
    setField w lo v &&& m = w &&& m := by
  apply BitVec.eq_of_getLsbD_eq
  intro i hi
  rw [BitVec.getLsbD_and, BitVec.getLsbD_and, getLsbD_setField w lo v hi]
  split
  · next hfield =>
    have := h (i - lo) (by omega)
    rw [Nat.add_sub_cancel' hfield.1] at this
    simp [this]
  · rfl

/-- Writing Cause and accumulating Flags is `FcsrCommitted` (R37, R335). -/
theorem State.fcsrCommitted (s : State) (e : FpFlags) :
    FcsrCommitted s.fcsr0 ((s.setFpCause e).addFpFlags e).fcsr0 e where
  cause := (extractLsb'_setField_apart _ _ (by decide) (by decide)).trans (extractLsb'_setField_same _ _ (by decide))
  flags := by
    refine (extractLsb'_setField_same _ _ (by decide)).trans ?_
    rw [State.fpFlags, State.setFpCause, extractLsb'_setField_apart _ _ (by decide) (by decide)]
  kept := by
    rw [State.addFpFlags, setField_and_of_clear _ _ _ _ (by decide), State.setFpCause, setField_and_of_clear _ _ _ _ (by decide)]

/-- With an exact result that is not tiny no U is added (R335). -/
@[simp] theorem State.fpExceptions_false (s : State) (e : FpFlags) : s.fpExceptions e false = e := rfl

/-! ## The commit, by what it writes -/

section Enabled
variable {s : State} (hfpe : s.fpe = true)
include hfpe

/-- A commit that no exception stops and that writes bits 31:0 of a register; `k` free values are drawn besides the high half. -/
theorem commitsLow_fpCommit {e : FpFlags} {te : Bool} (fd : FReg) {v : Word} {ok : Word → Prop} (k : Nat)
    (hquiet : s.NoTrap (s.fpExceptions e te)) (hv : ok v) :
    CommitsLow s (s.fpArith (s.fpCommit e te fun t => { t with draws := t.draws + k }.setFregLow fd v)) fd
      (s.fpExceptions e te) ok := by
  rw [State.fpArith_enabled hfpe, State.fpCommit_quiet hquiet]
  exact ⟨_, v, rfl, hv, s.fcsrCommitted _, State.fregLow_setFregLow _ _ _,
    fun q hq => (State.freg_setFregLow _ fd q v).trans (if_neg hq), rfl, fun _ => rfl, rfl⟩

/-- A commit that no exception stops and that writes a whole register, `k` free values drawn. -/
theorem commitsWhole_fpCommit {e : FpFlags} {te : Bool} (fd : FReg) {v : DWord} {ok : DWord → Prop} (k : Nat)
    (hquiet : s.NoTrap (s.fpExceptions e te)) (hv : ok v) :
    CommitsWhole s (s.fpArith (s.fpCommit e te fun t => { t with draws := t.draws + k }.setFreg fd v)) fd
      (s.fpExceptions e te) ok := by
  rw [State.fpArith_enabled hfpe, State.fpCommit_quiet hquiet]
  exact ⟨_, v, rfl, hv, s.fcsrCommitted _, (State.freg_setFreg _ fd fd v).trans (if_pos rfl),
    fun q hq => (State.freg_setFreg _ fd q v).trans (if_neg hq), rfl, fun _ => rfl, rfl⟩

/-- A commit that no exception stops and that writes a condition flag. -/
theorem commitsFlag_fpCommit {e : FpFlags} (cd : CReg) (v : Bool) (hquiet : s.NoTrap e) :
    CommitsFlag s (s.fpArith (s.fpCommit e false fun t => t.setCflag cd v)) cd e v := by
  rw [State.fpArith_enabled hfpe, State.fpCommit_quiet (te := false) hquiet]
  exact ⟨_, rfl, s.fcsrCommitted e, State.wroteCflag_setCflag ((s.setFpCause e).addFpFlags e) cd v⟩

/-- A commit that an enabled exception stops takes FPE, whatever it would have written. -/
theorem trapsFpe_fpCommit {e : FpFlags} {te : Bool} (w : State → State) (htrap : ¬ s.NoTrap (s.fpExceptions e te)) :
    TrapsFpe s (s.fpArith (s.fpCommit e te w)) (s.fpExceptions e te) := by
  rw [State.fpArith_enabled hfpe, State.fpCommit_trap htrap]
  exact ⟨_, extractLsb'_setField_same _ _ (by decide), setField_and_of_clear _ _ _ _ (by decide), rfl⟩

end Enabled

/-! ## Which commit each instruction makes -/

/-- Each binary32 arithmetic instruction commits the result of its row (R340 to R355, R368 to R373, R383, R385). -/
theorem exec_singleArithmetic (s : State) (fd fj fk fa : FReg) :
    ∀ p ∈ singleArithmetic s fd fj fk fa, ∃ op args, exec p.1 s = s.arithS fd op args p.2 := by
  simp only [singleArithmetic, List.forall_mem_cons, List.not_mem_nil, false_imp_iff, implies_true, and_true]
  and_intros <;> exact ⟨_, _, rfl⟩

/-- Each binary64 arithmetic instruction commits the result of its row. -/
theorem exec_doubleArithmetic (s : State) (fd fj fk fa : FReg) :
    ∀ p ∈ doubleArithmetic s fd fj fk fa, ∃ op args, exec p.1 s = s.arithD fd op args p.2 := by
  simp only [doubleArithmetic, List.forall_mem_cons, List.not_mem_nil, false_imp_iff, implies_true, and_true]
  and_intros <;> exact ⟨_, _, rfl⟩

/-- maxNum or minNum, or with `mag` the same by magnitude (section 4). -/
def FpFmt.selected (F : FpFmt) (want : FpRel) (mag pick : Bool) (x y : Nat) : FpOut :=
  if mag then F.maxMinMag want pick x y else F.maxMin want pick x y

/-- Each binary32 maximum or minimum commits what its row selects, with some choice between zeros (R356 to R363). -/
theorem exec_singleMaxMin (s : State) (fd fj fk : FReg) :
    ∀ p ∈ singleMaxMin fd fj fk, ∃ op args pick, exec p.1 s =
      s.selectS fd op args (FpFmt.b32.selected p.2.1 p.2.2 pick (s.fregLow fj).toNat (s.fregLow fk).toNat) := by
  simp only [singleMaxMin, List.forall_mem_cons, List.not_mem_nil, false_imp_iff, implies_true, and_true]
  and_intros <;> exact ⟨_, _, _, rfl⟩

/-- Each binary64 maximum or minimum commits what its row selects. -/
theorem exec_doubleMaxMin (s : State) (fd fj fk : FReg) :
    ∀ p ∈ doubleMaxMin fd fj fk, ∃ op args pick, exec p.1 s =
      s.selectD fd op args (FpFmt.b64.selected p.2.1 p.2.2 pick (s.freg fj).toNat (s.freg fk).toNat) := by
  simp only [doubleMaxMin, List.forall_mem_cons, List.not_mem_nil, false_imp_iff, implies_true, and_true]
  and_intros <;> exact ⟨_, _, _, rfl⟩

/-- A condition is true under the relations of a row of the table of R380, and raises V for quiet NaNs as the row says. -/
def CondRow (cond : BitVec 5) (row : List FpRel × Bool) : Prop :=
  (∀ r : FpRel, condHolds cond r = decide (r ∈ row.1)) ∧ cond.getLsbD 0 = row.2

/-- A condition has a row when the four relations agree with it. -/
theorem condRow_of {cond : BitVec 5} {row : List FpRel × Bool}
    (h : (∀ r ∈ [FpRel.un, .lt, .eq, .gt], condHolds cond r = decide (r ∈ row.1)) ∧ cond.getLsbD 0 = row.2) : CondRow cond row :=
  ⟨fun r => h.1 r (by cases r <;> decide), h.2⟩

/-- Each binary32 comparison is `compare` under a condition of its row (R380, R381). -/
theorem exec_singleCompares (s : State) (cd : CReg) (fj fk : FReg) :
    ∀ p ∈ singleCompares cd fj fk, ∃ cond, CondRow cond p.2 ∧
      exec p.1 s = s.compare cond cd (fp32 (s.fregLow fj)) (fp32 (s.fregLow fk)) := by
  simp only [singleCompares, List.forall_mem_cons, List.not_mem_nil, false_imp_iff, implies_true, and_true]
  and_intros <;> exact ⟨_, condRow_of (by decide), rfl⟩

/-- Each binary64 comparison is `compare` under a condition of its row. -/
theorem exec_doubleCompares (s : State) (cd : CReg) (fj fk : FReg) :
    ∀ p ∈ doubleCompares cd fj fk, ∃ cond, CondRow cond p.2 ∧
      exec p.1 s = s.compare cond cd (fp64 (s.freg fj)) (fp64 (s.freg fk)) := by
  simp only [doubleCompares, List.forall_mem_cons, List.not_mem_nil, false_imp_iff, implies_true, and_true]
  and_intros <;> exact ⟨_, condRow_of (by decide), rfl⟩

/-- Each conversion to an integer is `toInt` in the direction and of the operand of its row (R387 to R397). -/
theorem exec_intConversions (s : State) (fd fj : FReg) :
    ∀ p ∈ intConversions s fd fj, ∃ invalid, exec p.1 s = s.toInt fd p.2.1 p.2.2 invalid := by
  simp only [intConversions, List.forall_mem_cons, List.not_mem_nil, false_imp_iff, implies_true, and_true]
  and_intros <;> exact ⟨_, rfl⟩

/-! ## Arithmetic results -/

/-- A word with the quiet bits set is a quiet NaN (R330). -/
theorem isQuietNaN32_quiet32 (w : Word) : IsQuietNaN32 (quiet32 w) := by
  apply BitVec.eq_of_getLsbD_eq
  intro i hi
  simp only [quiet32, BitVec.getLsbD_extractLsb', BitVec.getLsbD_or]
  interval_cases i <;> simp

/-- So is a doubleword. -/
theorem isQuietNaN64_quiet64 (w : DWord) : IsQuietNaN64 (quiet64 w) := by
  apply BitVec.eq_of_getLsbD_eq
  intro i hi
  simp only [quiet64, BitVec.getLsbD_extractLsb', BitVec.getLsbD_or]
  interval_cases i <;> simp

/-- The word an operation delivers is one its result allows (R333). -/
theorem FpOut.allows32_word (r : FpOut) (op : FpOp) (args : List DWord) : r.Allows32 (r.word op args) := by
  cases r with
  | num b e t => rfl
  | defaultNaN e => exact isQuietNaN32_quiet32 _
  | nanOf e => exact isQuietNaN32_quiet32 _

/-- So is the doubleword. -/
theorem FpOut.allows64_dword (r : FpOut) (op : FpOp) (args : List DWord) : r.Allows64 (r.dword op args) := by
  cases r with
  | num b e t => rfl
  | defaultNaN e => exact isQuietNaN64_quiet64 _
  | nanOf e => exact isQuietNaN64_quiet64 _

/-- U is added exactly for a tiny exact result under FP.underflowTrapExact with Enables.U set (R335). -/
theorem State.fpExceptions_eq (s : State) (e : FpFlags) (te : Bool) : s.fpExceptions e te =
    if te = true ∧ s.fcsr0.getLsbD 1 = true ∧ Config.underflowTrapExact = true then e ||| flagU else e := by
  have henable : s.fpEnables.getLsbD 1 = s.fcsr0.getLsbD 1 := by simp [State.fpEnables]
  simp only [State.fpExceptions, henable, Bool.and_eq_true, and_assoc]

/-- Settles O37: every row is `arithS` or `arithD` of its operation, and those commit what the operation gives. -/
theorem fpArithmeticResults : Obligations.FpArithmeticResults := by
  intro s fd fj fk fa
  refine ⟨?direction, s.fpExceptions_eq, fun hfpe => ⟨?single, ?double⟩⟩
  case direction =>
    simp only [List.forall_mem_cons, List.not_mem_nil, false_imp_iff, implies_true, and_true, State.rounding, State.fpRm]
    and_intros <;> (intro h; rw [h]; rfl)
  case single =>
    intro p hp e hquiet
    obtain ⟨op, args, hexec⟩ := exec_singleArithmetic s fd fj fk fa p hp
    rw [hexec]
    exact commitsLow_fpCommit hfpe fd 0 hquiet (p.2.allows32_word op args)
  case double =>
    intro p hp e hquiet
    obtain ⟨op, args, hexec⟩ := exec_doubleArithmetic s fd fj fk fa p hp
    rw [hexec]
    exact commitsWhole_fpCommit hfpe fd 0 hquiet (p.2.allows64_dword op args)

/-! ## Comparisons -/

/-- Two data are unordered exactly when one is a NaN (R381). -/
theorem FpVal.relation_eq_un {a b : FpVal} : a.relation b = .un ↔ a.isNan = true ∨ b.isNan = true := by
  have hints : ∀ i j : Int, FpRel.ofInts i j ≠ .un := fun i j => by unfold FpRel.ofInts; split_ifs <;> decide
  cases a <;> cases b <;> simp [FpVal.relation, FpVal.isNan, hints] <;> split <;> decide

/-- The exceptions of a comparison are those of its row (R381). -/
theorem cmpFlags_eq {cond : BitVec 5} {row : List FpRel × Bool} (h : CondRow cond row) (a b : FpVal) :
    cmpFlags cond a b = compareFlags row.2 a b := by
  simp only [cmpFlags, compareFlags, h.2, Bool.or_eq_true, Bool.and_eq_true, decide_eq_true_eq, FpVal.relation_eq_un, or_assoc]

/-- A comparison that no exception stops writes what its row says. -/
theorem commitsFlag_compare {s : State} (hfpe : s.fpe = true) {cond : BitVec 5} {row : List FpRel × Bool} (h : CondRow cond row)
    (cd : CReg) (a b : FpVal) (hquiet : s.NoTrap (compareFlags row.2 a b)) :
    CommitsFlag s (s.compare cond cd a b) cd (compareFlags row.2 a b) (decide (a.relation b ∈ row.1)) := by
  rw [State.compare, h.1, cmpFlags_eq h]
  exact commitsFlag_fpCommit hfpe cd _ hquiet

/-- Settles O40: every row is `compare` under a condition with the row's relations and exceptions. -/
theorem compareResults : Obligations.CompareResults := by
  intro s cd fj fk hfpe
  constructor
  case left =>
    intro p hp a b e hquiet
    obtain ⟨cond, hrow, hexec⟩ := exec_singleCompares s cd fj fk p hp
    rw [hexec]
    exact commitsFlag_compare hfpe hrow cd _ _ hquiet
  case right =>
    intro p hp a b e hquiet
    obtain ⟨cond, hrow, hexec⟩ := exec_doubleCompares s cd fj fk p hp
    rw [hexec]
    exact commitsFlag_compare hfpe hrow cd _ _ hquiet

end Sys2Proof.Machine

namespace Sys2Proof.Machine
/-! ## The fields of a bit pattern -/

/-- The datum of a binary32 pattern, by its fields (R330). -/
theorem unpack_b32 (b : Nat) : FpFmt.b32.unpack b =
    if b / 2 ^ 23 % 2 ^ 8 = 255 then
      if b % 2 ^ 23 = 0 then .inf (decide (b / 2 ^ 31 % 2 = 1)) else .nan (decide (b % 2 ^ 23 < 2 ^ 22))
    else if b / 2 ^ 23 % 2 ^ 8 = 0 then .fin (decide (b / 2 ^ 31 % 2 = 1)) (b % 2 ^ 23) (-149)
    else .fin (decide (b / 2 ^ 31 % 2 = 1)) (b % 2 ^ 23 + 2 ^ 23) (((b / 2 ^ 23 % 2 ^ 8 : Nat) : Int) - 1 + -149) := rfl

/-- The datum of a binary64 pattern, by its fields (R330). -/
theorem unpack_b64 (b : Nat) : FpFmt.b64.unpack b =
    if b / 2 ^ 52 % 2 ^ 11 = 2047 then
      if b % 2 ^ 52 = 0 then .inf (decide (b / 2 ^ 63 % 2 = 1)) else .nan (decide (b % 2 ^ 52 < 2 ^ 51))
    else if b / 2 ^ 52 % 2 ^ 11 = 0 then .fin (decide (b / 2 ^ 63 % 2 = 1)) (b % 2 ^ 52) (-1074)
    else .fin (decide (b / 2 ^ 63 % 2 = 1)) (b % 2 ^ 52 + 2 ^ 52) (((b / 2 ^ 52 % 2 ^ 11 : Nat) : Int) - 1 + -1074) := rfl

/-- A field holds a value exactly when the digits of the number there are it. -/
theorem extractLsb'_eq_iff {w : Nat} (x : BitVec w) (k n : Nat) (v : BitVec n) :
    x.extractLsb' k n = v ↔ x.toNat / 2 ^ k % 2 ^ n = v.toNat := by
  rw [← BitVec.toNat_inj, BitVec.extractLsb'_toNat, Nat.shiftRight_eq_div_pow]

/-- A bit is the parity of the number shifted down to it. -/
theorem getLsbD_eq_decide {w : Nat} (x : BitVec w) (k : Nat) : x.getLsbD k = decide (x.toNat / 2 ^ k % 2 = 1) := by
  rw [← BitVec.testBit_toNat, Nat.testBit_eq_decide_div_mod_eq]

/-- A quiet NaN of binary32 stands for one (R330). -/
theorem unpack_of_isQuietNaN32 {w : Word} (h : IsQuietNaN32 w) : FpFmt.b32.unpack w.toNat = .nan false := by
  have hbits : w.toNat / 2 ^ 22 % 2 ^ 9 = 511 := (extractLsb'_eq_iff w 22 9 0x1FF#9).mp h
  rw [unpack_b32, if_pos (by omega), if_neg (by omega), decide_eq_false (by omega)]

/-- A quiet NaN of binary64 stands for one (R330). -/
theorem unpack_of_isQuietNaN64 {w : DWord} (h : IsQuietNaN64 w) : FpFmt.b64.unpack w.toNat = .nan false := by
  have hbits : w.toNat / 2 ^ 51 % 2 ^ 12 = 4095 := (extractLsb'_eq_iff w 51 12 0xFFF#12).mp h
  rw [unpack_b64, if_pos (by omega), if_neg (by omega), decide_eq_false (by omega)]

/-! ## Maximum and minimum -/

/-- The relation of two data the other way round. -/
def FpRel.swap : FpRel → FpRel
  | .un => .un
  | .lt => .gt
  | .eq => .eq
  | .gt => .lt

theorem FpRel.ofInts_swap (i j : Int) : FpRel.ofInts j i = (FpRel.ofInts i j).swap := by
  rcases lt_trichotomy i j with h | h | h
  · rw [FpRel.ofInts, FpRel.ofInts, if_neg h.le.not_gt, if_neg h.ne', if_pos h, FpRel.swap]
  · simp [FpRel.ofInts, FpRel.swap, h]
  · rw [FpRel.ofInts, FpRel.ofInts, if_pos h, if_neg h.le.not_gt, if_neg h.ne', FpRel.swap]

/-- Comparing the other way round gives the relation the other way round (R381). -/
theorem FpVal.relation_swap (a b : FpVal) : b.relation a = (a.relation b).swap := by
  cases a with
  | nan s => cases b <;> rfl
  | inf s =>
    cases b with
    | nan t => rfl
    | inf t => exact FpRel.ofInts_swap _ _
    | fin t m q => cases s <;> rfl
  | fin s m q =>
    cases b with
    | nan t => rfl
    | inf t => cases t <;> rfl
    | fin t m' q' =>
      simp only [FpVal.relation, min_comm q' q]
      exact FpRel.ofInts_swap _ _

/-- A datum that is not a NaN equals itself (R381). -/
theorem FpVal.relation_self {a : FpVal} (h : a.isNan = false) : a.relation a = .eq := by
  cases a with
  | nan s => cases h
  | inf s => simp [FpVal.relation, FpRel.ofInts]
  | fin s m q => simp [FpVal.relation, FpRel.ofInts]

@[simp] theorem FpVal.isNan_abs (a : FpVal) : a.abs.isNan = a.isNan := by cases a <;> rfl

theorem FpVal.isNan_of_isSnan {a : FpVal} (h : a.isSnan = true) : a.isNan = true := by
  cases a with
  | nan s => rfl
  | inf s => cases h
  | fin s m q => cases h

/-- One operand stands, beside the other, as a maximum (`gt`) or minimum (`lt`) does. -/
def FpRel.Wanted (want r : FpRel) : Prop := r = want ∨ r = .eq

/-- Of two ordered operands the first stands as wanted beside the second, or the second beside the first. -/
theorem FpRel.wanted_or_swap {want r : FpRel} (hwant : want = .gt ∨ want = .lt) (hr : r ≠ .un) (hne : r ≠ want) :
    want.Wanted r.swap := by
  rcases hwant with rfl | rfl <;> cases r <;> simp_all [FpRel.Wanted, FpRel.swap]

/-- The selection by value picks an operand that stands as wanted beside the other (R356, R358). -/
theorem selectNum_cases (x y : Nat) {r want : FpRel} (pick : Bool) (hwant : want = .gt ∨ want = .lt) (hr : r ≠ .un) :
    (selectNum x y r want pick = x ∧ want.Wanted r) ∨ (selectNum x y r want pick = y ∧ want.Wanted r.swap) := by
  unfold selectNum
  by_cases heq : r = .eq
  · subst heq
    by_cases hxy : x = y
    · exact .inl ⟨by simp [hxy], .inr rfl⟩
    · cases pick
      · exact .inr ⟨by simp [hxy], .inr rfl⟩
      · exact .inl ⟨by simp, .inr rfl⟩
  · rw [if_neg heq]
    by_cases hw : r = want
    · exact .inl ⟨if_pos hw, .inl hw⟩
    · exact .inr ⟨if_neg hw, FpRel.wanted_or_swap hwant hr hw⟩

/-- An operand beside itself and the other, from how it stands beside the other. -/
theorem FpVal.wanted_both {a b : FpVal} {want : FpRel} (ha : a.isNan = false) (h : want.Wanted (a.relation b)) :
    want.Wanted (a.relation a) ∧ want.Wanted (a.relation b) := ⟨.inr (FpVal.relation_self ha), h⟩

section Ordered
variable {F : FpFmt} {x y : Nat} (hx : (F.unpack x).isNan = false) (hy : (F.unpack y).isNan = false)
include hx hy

/-- Of two numbers maxNum and minNum give one that `Selects` by value (R356, R358). -/
theorem FpFmt.maxMin_selects {want : FpRel} (pick : Bool) (hwant : want = .gt ∨ want = .lt) :
    ∃ v, F.maxMin want pick x y = .exact v ∧ F.Selects want false x y v := by
  have hsx : (F.unpack x).isSnan = false := Bool.eq_false_iff.mpr fun h => by simp [FpVal.isNan_of_isSnan h] at hx
  have hsy : (F.unpack y).isSnan = false := Bool.eq_false_iff.mpr fun h => by simp [FpVal.isNan_of_isSnan h] at hy
  have hord : (F.unpack x).relation (F.unpack y) ≠ .un := fun h => by simp [FpVal.relation_eq_un, hx, hy] at h
  have hv : F.maxMin want pick x y = .exact (selectNum x y ((F.unpack x).relation (F.unpack y)) want pick) := by
    simp only [FpFmt.maxMin, hx, hy, hsx, hsy, Bool.or_self, Bool.and_self, Bool.false_eq_true, if_false]
  refine ⟨_, hv, ?_⟩
  rcases selectNum_cases x y pick hwant hord with ⟨hv, hw⟩ | ⟨hv, hw⟩
  · rw [hv]
    exact ⟨.inl rfl, FpVal.wanted_both hx hw⟩
  · rw [hv]
    rw [← FpVal.relation_swap] at hw
    exact ⟨.inr rfl, (FpVal.wanted_both hy hw).symm⟩

/-- Of two numbers maxNumMag and minNumMag give one that `Selects` by magnitude (R360, R362). -/
theorem FpFmt.maxMinMag_selects {want : FpRel} (pick : Bool) (hwant : want = .gt ∨ want = .lt) :
    ∃ v, F.maxMinMag want pick x y = .exact v ∧ F.Selects want true x y v := by
  have hxa : (F.unpack x).abs.isNan = false := by rw [FpVal.isNan_abs, hx]
  have hya : (F.unpack y).abs.isNan = false := by rw [FpVal.isNan_abs, hy]
  have hord : (F.unpack x).abs.relation (F.unpack y).abs ≠ .un := fun h => by simp [FpVal.relation_eq_un, hx, hy] at h
  by_cases heq : (F.unpack x).abs.relation (F.unpack y).abs = .eq
  · obtain ⟨v, hv, hone, hvalue⟩ := FpFmt.maxMin_selects hx hy pick hwant
    have heq' : (F.unpack y).abs.relation (F.unpack x).abs = .eq := by rw [FpVal.relation_swap, heq, FpRel.swap]
    refine ⟨v, by simp only [FpFmt.maxMinMag, heq, or_true, if_true, hv], hone, ?_⟩
    rcases hone with rfl | rfl
    · exact ⟨.inr (FpVal.relation_self hxa), .inr heq, fun _ => hvalue⟩
    · exact ⟨.inr heq', .inr (FpVal.relation_self hya), fun _ => hvalue⟩
  · refine ⟨_, if_neg (not_or.mpr ⟨hord, heq⟩), ?_⟩
    by_cases hw : (F.unpack x).abs.relation (F.unpack y).abs = want
    · rw [if_pos hw]
      exact ⟨.inl rfl, .inr (FpVal.relation_self hxa), .inl hw, fun h => absurd h heq⟩
    · have hother := FpRel.wanted_or_swap hwant hord hw
      rw [← FpVal.relation_swap] at hother
      rw [if_neg hw]
      exact ⟨.inr rfl, hother, .inr (FpVal.relation_self hya), fun h => absurd h heq⟩

end Ordered

/-- With a NaN operand the magnitudes are unordered, and the selection is maxNum or minNum (R360, R362). -/
theorem FpFmt.selected_of_nan {F : FpFmt} {x y : Nat} (h : (F.unpack x).isNan = true ∨ (F.unpack y).isNan = true)
    (want : FpRel) (mag pick : Bool) : F.selected want mag pick x y = F.maxMin want pick x y := by
  have hun : (F.unpack x).abs.relation (F.unpack y).abs = .un := by
    rwa [FpVal.relation_eq_un, FpVal.isNan_abs, FpVal.isNan_abs]
  cases mag
  · rfl
  · simp only [FpFmt.selected, if_true, FpFmt.maxMinMag, hun, true_or]

/-- The operands for which a selection gives a NaN: a signaling one, or two NaNs (section 4). -/
def FpVal.SelectsNaN (a b : FpVal) : Prop := a.isSnan = true ∨ b.isSnan = true ∨ (a.isNan = true ∧ b.isNan = true)

/-- For those it gives a NaN, with V for a signaling one. -/
theorem FpFmt.selected_of_selectsNaN {F : FpFmt} {x y : Nat} (h : (F.unpack x).SelectsNaN (F.unpack y))
    (want : FpRel) (mag pick : Bool) :
    F.selected want mag pick x y = .nanOf (snanFlags (F.unpack x) (F.unpack y)) := by
  have hnan : (F.unpack x).isNan = true ∨ (F.unpack y).isNan = true :=
    h.imp FpVal.isNan_of_isSnan fun h => h.elim FpVal.isNan_of_isSnan And.right
  rw [FpFmt.selected_of_nan hnan]
  by_cases hs : (F.unpack x).isSnan = true ∨ (F.unpack y).isSnan = true
  · rw [snanFlags, if_pos hs]
    exact if_pos ((Bool.or_eq_true _ _).mpr hs)
  · have hboth : (F.unpack x).isNan = true ∧ (F.unpack y).isNan = true :=
      (h.resolve_left fun hx => hs (.inl hx)).resolve_left fun hy => hs (.inr hy)
    rw [snanFlags, if_neg hs]
    exact (if_neg (mt (Bool.or_eq_true _ _).mp hs)).trans (if_pos ((Bool.and_eq_true _ _).mpr hboth))

/-- For all others it gives an operand that is allowed, without exception. -/
theorem FpFmt.selected_of_not_selectsNaN {F : FpFmt} {x y : Nat} (h : ¬ (F.unpack x).SelectsNaN (F.unpack y))
    {want : FpRel} (hwant : want = .gt ∨ want = .lt) (mag pick : Bool) :
    ∃ v, F.selected want mag pick x y = .exact v ∧ (v = x ∨ v = y) ∧ F.MaxMinAllows want mag x y v := by
  have hs : ¬ ((F.unpack x).isSnan = true ∨ (F.unpack y).isSnan = true) := fun hs => h (hs.imp_right .inl)
  have hboth : ¬ ((F.unpack x).isNan = true ∧ (F.unpack y).isNan = true) := fun hb => h (.inr (.inr hb))
  have hallows : ∀ v, (if (F.unpack x).isNan = true then v = y else if (F.unpack y).isNan = true then v = x
      else F.Selects want mag x y v) → F.MaxMinAllows want mag x y v := fun v hv => (if_neg h).mpr hv
  have hmaxMin : F.maxMin want pick x y = if (F.unpack x).isNan = true then .exact y else if (F.unpack y).isNan = true then
      .exact x else .exact (selectNum x y ((F.unpack x).relation (F.unpack y)) want pick) :=
    (if_neg (mt (Bool.or_eq_true _ _).mp hs)).trans (if_neg (mt (Bool.and_eq_true _ _).mp hboth))
  cases hx : (F.unpack x).isNan
  · cases hy : (F.unpack y).isNan
    · have hfree : ∀ v, F.Selects want mag x y v → F.MaxMinAllows want mag x y v := fun v hv => hallows v (by simpa [hx, hy] using hv)
      cases mag
      · obtain ⟨v, hv, hsel⟩ := FpFmt.maxMin_selects hx hy pick hwant
        exact ⟨v, hv, hsel.1, hfree v hsel⟩
      · obtain ⟨v, hv, hsel⟩ := FpFmt.maxMinMag_selects hx hy pick hwant
        exact ⟨v, hv, hsel.1, hfree v hsel⟩
    · refine ⟨x, ?_, .inl rfl, hallows x (by simp [hx, hy])⟩
      rw [FpFmt.selected_of_nan (.inr hy), hmaxMin]
      simp [hx, hy]
  · refine ⟨y, ?_, .inr rfl, hallows y (by simp [hx])⟩
    rw [FpFmt.selected_of_nan (.inl hx), hmaxMin]
    simp [hx]

/-- The exceptions of a selection are V for a signaling operand and nothing else (section 4). -/
theorem FpFmt.selected_flags (F : FpFmt) {want : FpRel} (hwant : want = .gt ∨ want = .lt) (mag pick : Bool) (x y : Nat) :
    (F.selected want mag pick x y).flags = snanFlags (F.unpack x) (F.unpack y) ∧
      (F.selected want mag pick x y).tinyExact = false := by
  by_cases h : (F.unpack x).SelectsNaN (F.unpack y)
  · rw [FpFmt.selected_of_selectsNaN h]
    exact ⟨rfl, rfl⟩
  · obtain ⟨v, hv, -⟩ := FpFmt.selected_of_not_selectsNaN h hwant mag pick
    have hs : ¬ ((F.unpack x).isSnan = true ∨ (F.unpack y).isSnan = true) := fun hs => h (hs.imp_right .inl)
    rw [hv, snanFlags, if_neg hs]
    exact ⟨rfl, rfl⟩

/-- The word of a binary32 selection is one section 4 allows. -/
theorem selected_word_allowed {want : FpRel} (hwant : want = .gt ∨ want = .lt) (mag pick : Bool) (x y : Word) (op : FpOp)
    (args : List DWord) : FpFmt.b32.MaxMinAllows want mag x.toNat y.toNat
      ((FpFmt.b32.selected want mag pick x.toNat y.toNat).word op args).toNat := by
  by_cases h : (fp32 x).SelectsNaN (fp32 y)
  · rw [FpFmt.selected_of_selectsNaN h]
    exact (if_pos h).mpr (unpack_of_isQuietNaN32 (isQuietNaN32_quiet32 _))
  · obtain ⟨v, hv, hone, hallows⟩ := FpFmt.selected_of_not_selectsNaN h hwant mag pick
    have hlt : v < 2 ^ 32 := by rcases hone with rfl | rfl <;> exact BitVec.isLt _
    rwa [hv, FpOut.exact, FpOut.word, BitVec.toNat_ofNat, Nat.mod_eq_of_lt hlt]

/-- The doubleword of a binary64 selection is one section 4 allows. -/
theorem selected_dword_allowed {want : FpRel} (hwant : want = .gt ∨ want = .lt) (mag pick : Bool) (x y : DWord) (op : FpOp)
    (args : List DWord) : FpFmt.b64.MaxMinAllows want mag x.toNat y.toNat
      ((FpFmt.b64.selected want mag pick x.toNat y.toNat).dword op args).toNat := by
  by_cases h : (fp64 x).SelectsNaN (fp64 y)
  · rw [FpFmt.selected_of_selectsNaN h]
    exact (if_pos h).mpr (unpack_of_isQuietNaN64 (isQuietNaN64_quiet64 _))
  · obtain ⟨v, hv, hone, hallows⟩ := FpFmt.selected_of_not_selectsNaN h hwant mag pick
    have hlt : v < 2 ^ 64 := by rcases hone with rfl | rfl <;> exact BitVec.isLt _
    rwa [hv, FpOut.exact, FpOut.dword, BitVec.toNat_ofNat, Nat.mod_eq_of_lt hlt]

/-- Each row of the tables wants the larger or the smaller operand. -/
theorem singleMaxMin_want (fd fj fk : FReg) : ∀ p ∈ singleMaxMin fd fj fk, p.2.1 = .gt ∨ p.2.1 = .lt := by
  simp [singleMaxMin]

theorem doubleMaxMin_want (fd fj fk : FReg) : ∀ p ∈ doubleMaxMin fd fj fk, p.2.1 = .gt ∨ p.2.1 = .lt := by
  simp [doubleMaxMin]

/-- Settles O38: every row is `selectS` or `selectD` of its selection, which raises V for a signaling operand alone and whose
value is allowed. -/
theorem fpMaxMinResults : Obligations.FpMaxMinResults := by
  intro s fd fj fk hfpe
  constructor
  case left =>
    intro p hp e hquiet
    have hwant := singleMaxMin_want fd fj fk p hp
    obtain ⟨op, args, pick, hexec⟩ := exec_singleMaxMin s fd fj fk p hp
    obtain ⟨hflags, hte⟩ := FpFmt.b32.selected_flags hwant p.2.2 pick (s.fregLow fj).toNat (s.fregLow fk).toNat
    rw [hexec, State.selectS, hflags, hte]
    exact commitsLow_fpCommit (te := false) hfpe fd 1 hquiet (selected_word_allowed hwant _ _ _ _ op args)
  case right =>
    intro p hp e hquiet
    have hwant := doubleMaxMin_want fd fj fk p hp
    obtain ⟨op, args, pick, hexec⟩ := exec_doubleMaxMin s fd fj fk p hp
    obtain ⟨hflags, hte⟩ := FpFmt.b64.selected_flags hwant p.2.2 pick (s.freg fj).toNat (s.freg fk).toNat
    rw [hexec, State.selectD, hflags, hte]
    exact commitsWhole_fpCommit (te := false) hfpe fd 1 hquiet (selected_dword_allowed hwant _ _ _ _ op args)

/-! ## Enabled exceptions -/

/-- A comparison with an enabled exception takes FPE. -/
theorem trapsFpe_compare {s : State} (hfpe : s.fpe = true) {cond : BitVec 5} {row : List FpRel × Bool} (h : CondRow cond row)
    (cd : CReg) (a b : FpVal) (htrap : ¬ s.NoTrap (compareFlags row.2 a b)) :
    TrapsFpe s (s.compare cond cd a b) (compareFlags row.2 a b) := by
  rw [State.compare, cmpFlags_eq h]
  exact trapsFpe_fpCommit hfpe (te := false) _ htrap

/-- The exceptions of a conversion to an integer: those of its value, or V where it has none (R397). -/
def FpVal.sint32Flags (rd : Rounding) (a : FpVal) : FpFlags :=
  match a.toSint32 rd with
  | some r => r.2
  | none => flagV

/-- A conversion to an integer commits its exceptions and some word (R397). -/
theorem State.toInt_eq (s : State) (fd : FReg) (rd : Rounding) (a : FpVal) (invalid : Word) : ∃ v,
    s.toInt fd rd a invalid = s.fpArith (s.fpCommit (a.sint32Flags rd) false fun t => t.setFregLow fd v) := by
  unfold State.toInt FpVal.sint32Flags
  cases a.toSint32 rd with
  | none => exact ⟨_, rfl⟩
  | some r => exact ⟨_, rfl⟩

/-- A conversion to an integer with an enabled exception takes FPE. -/
theorem trapsFpe_toInt {s : State} (hfpe : s.fpe = true) (fd : FReg) (rd : Rounding) (a : FpVal) (invalid : Word)
    (htrap : ¬ s.NoTrap (a.sint32Flags rd)) : TrapsFpe s (s.toInt fd rd a invalid) (a.sint32Flags rd) := by
  obtain ⟨v, hv⟩ := s.toInt_eq fd rd a invalid
  rw [hv]
  exact trapsFpe_fpCommit hfpe (te := false) _ htrap

/-- Settles O47: every family is a commit with the exceptions the statement names. -/
theorem fpEnabledExceptionTraps : Obligations.FpEnabledExceptionTraps := by
  intro s fd fj fk fa cd hfpe a b c d
  refine ⟨?arith, ?singleSel, ?doubleSel, ?singleCmp, ?doubleCmp, ?int⟩
  case arith =>
    rw [List.forall_mem_append]
    constructor <;> intro p hp e htrap
    · obtain ⟨op, args, hexec⟩ := exec_singleArithmetic s fd fj fk fa p hp
      rw [hexec]
      exact trapsFpe_fpCommit hfpe _ htrap
    · obtain ⟨op, args, hexec⟩ := exec_doubleArithmetic s fd fj fk fa p hp
      rw [hexec]
      exact trapsFpe_fpCommit hfpe _ htrap
  case singleSel =>
    intro p hp htrap
    obtain ⟨op, args, pick, hexec⟩ := exec_singleMaxMin s fd fj fk p hp
    obtain ⟨hflags, hte⟩ := FpFmt.b32.selected_flags (singleMaxMin_want fd fj fk p hp) p.2.2 pick (s.fregLow fj).toNat
      (s.fregLow fk).toNat
    rw [hexec, State.selectS, hflags, hte]
    exact trapsFpe_fpCommit hfpe (te := false) _ htrap
  case doubleSel =>
    intro p hp htrap
    obtain ⟨op, args, pick, hexec⟩ := exec_doubleMaxMin s fd fj fk p hp
    obtain ⟨hflags, hte⟩ := FpFmt.b64.selected_flags (doubleMaxMin_want fd fj fk p hp) p.2.2 pick (s.freg fj).toNat
      (s.freg fk).toNat
    rw [hexec, State.selectD, hflags, hte]
    exact trapsFpe_fpCommit hfpe (te := false) _ htrap
  case singleCmp =>
    intro p hp htrap
    obtain ⟨cond, hrow, hexec⟩ := exec_singleCompares s cd fj fk p hp
    rw [hexec]
    exact trapsFpe_compare hfpe hrow cd _ _ htrap
  case doubleCmp =>
    intro p hp htrap
    obtain ⟨cond, hrow, hexec⟩ := exec_doubleCompares s cd fj fk p hp
    rw [hexec]
    exact trapsFpe_compare hfpe hrow cd _ _ htrap
  case int =>
    intro p hp e htrap
    obtain ⟨invalid, hexec⟩ := exec_intConversions s fd fj p hp
    rw [hexec]
    exact trapsFpe_toInt hfpe fd p.2.1 p.2.2 invalid htrap

/-! ## Signs and classes -/

section Enabled
variable {s : State} (hfpe : s.fpe = true)
include hfpe

/-- With the unit on, an instruction that is not arithmetic and writes bits 31:0 of a register only does that (R336). -/
theorem setsFregLow_fpOnly (fd : FReg) (v : Word) :
    SetsFregLow s (s.complete (s.fpOnly.bind fun _ => .ok (s.setFregLow fd v).advance)) fd v := by
  rw [State.fpOnly_ok hfpe]
  exact ⟨_, rfl, State.wroteFregLow_setFregLow s fd v⟩

/-- So does one that writes a whole register. -/
theorem setsFreg_fpOnly (fd : FReg) (v : DWord) :
    SetsFreg s (s.complete (s.fpOnly.bind fun _ => .ok (s.setFreg fd v).advance)) fd v := by
  rw [State.fpOnly_ok hfpe]
  exact ⟨_, rfl, State.wroteFreg_setFreg s fd v⟩

end Enabled

/-- The bits of the two masks that part a word into sign and magnitude. -/
theorem signMask32 : ∀ i < 32, (0x80000000#32).getLsbD i = decide (i = 31) ∧ (0x7FFFFFFF#32).getLsbD i = !decide (i = 31) := by
  decide

theorem signMask64 : ∀ i < 64, (0x8000000000000000#64).getLsbD i = decide (i = 63) ∧
    (0x7FFFFFFFFFFFFFFF#64).getLsbD i = !decide (i = 63) := by
  decide

/-- The number of the class of a pattern, by its fields (R376, R377). -/
theorem FpFmt.classBit_eq (F : FpFmt) (b : Nat) : F.classBit b =
    let frac := b % 2 ^ (F.prec - 1)
    let ex := b / 2 ^ (F.prec - 1) % 2 ^ F.ebits
    let neg := decide (b / F.signBit % 2 = 1)
    if ex = 2 ^ F.ebits - 1 then
      if frac = 0 then (if neg then 2 else 6) else (if frac < 2 ^ (F.prec - 2) then 0 else 1)
    else if ex = 0 then
      if frac = 0 then (if neg then 5 else 9) else (if neg then 4 else 8)
    else (if neg then 3 else 7) := by
  have hfrac : b % 2 ^ (F.prec - 1) < 2 ^ (F.prec - 1) := Nat.mod_lt _ (Nat.two_pow_pos _)
  unfold FpFmt.classBit FpFmt.unpack
  dsimp only
  split_ifs <;> simp_all

/-- The class of a binary32 pattern is that of its fields (R376). -/
theorem classBit_b32 (w : Word) : FpFmt.b32.classBit w.toNat = fclassSpec32 w := by
  have hquiet : (w.toNat / 2 ^ 22 % 2 = 1) ↔ ¬ w.toNat % 2 ^ 23 < 2 ^ 22 := by omega
  simp only [FpFmt.classBit_eq, fclassSpec32, extractLsb'_eq_iff, getLsbD_eq_decide, pow_zero, Nat.div_one, decide_eq_true_eq,
    hquiet, ite_not]
  rfl

/-- The class of a binary64 pattern is that of its fields (R377). -/
theorem classBit_b64 (w : DWord) : FpFmt.b64.classBit w.toNat = fclassSpec64 w := by
  have hquiet : (w.toNat / 2 ^ 51 % 2 = 1) ↔ ¬ w.toNat % 2 ^ 52 < 2 ^ 51 := by omega
  simp only [FpFmt.classBit_eq, fclassSpec64, extractLsb'_eq_iff, getLsbD_eq_decide, pow_zero, Nat.div_one, decide_eq_true_eq,
    hquiet, ite_not]
  rfl

/-- A 1 shifted to a bit is that power of 2. -/
theorem one_shiftLeft_eq_ofNat (w n : Nat) : 1#w <<< n = BitVec.ofNat w (2 ^ n) := by
  apply BitVec.eq_of_toNat_eq
  rw [BitVec.toNat_shiftLeft, BitVec.toNat_ofNat, BitVec.toNat_ofNat, Nat.shiftLeft_eq, Nat.mod_mul_mod, Nat.one_mul]

/-- Settles O39: each instruction is one register write; the masks part the sign from the rest bit by bit, and the class is
read off the fields. -/
theorem signAndClassResults : Obligations.SignAndClassResults := by
  intro s fd fj fk hfpe a b signed32 signed64
  refine ⟨⟨_, setsFregLow_fpOnly hfpe fd _, ?abs32⟩, ⟨_, setsFreg_fpOnly hfpe fd _, ?abs64⟩,
    ⟨_, setsFregLow_fpOnly hfpe fd _, ?neg32⟩, ⟨_, setsFreg_fpOnly hfpe fd _, ?neg64⟩,
    ⟨_, setsFregLow_fpOnly hfpe fd _, ?copy32⟩, ⟨_, setsFreg_fpOnly hfpe fd _, ?copy64⟩, ?class32, ?class64⟩
  case abs32 | neg32 | copy32 =>
    intro i hi
    obtain ⟨hsign, hmag⟩ := signMask32 i hi
    by_cases htop : i = 31 <;> simp [hsign, hmag, htop, a, State.fregLow]
  case abs64 | neg64 | copy64 =>
    intro i hi
    obtain ⟨hsign, hmag⟩ := signMask64 i hi
    by_cases htop : i = 63 <;> simp [hsign, hmag, htop, b]
  case class32 =>
    rw [← classBit_b32, ← one_shiftLeft_eq_ofNat]
    exact setsFregLow_fpOnly hfpe fd _
  case class64 =>
    rw [← classBit_b64, ← one_shiftLeft_eq_ofNat]
    exact setsFreg_fpOnly hfpe fd _

end Sys2Proof.Machine

/-! ### Correct rounding -/

namespace Sys2Proof.Machine

/-! ## The finite numbers of a format, in order -/

/-- A format with room for a significand and for numbers besides the subnormal ones, as both formats of R330 have. -/
structure FpFmt.Roomy (F : FpFmt) : Prop where
  prec : 2 ≤ F.prec
  ebits : 2 ≤ F.ebits

theorem FpFmt.roomy_of_format {F : FpFmt} (h : F = .b32 ∨ F = .b64) : F.Roomy := by
  rcases h with rfl | rfl <;> exact ⟨by decide, by decide⟩

/-- The sign as a number. -/
noncomputable def signOf (neg : Bool) : ℝ := if neg then -1 else 1

@[simp] theorem signOf_true : signOf true = -1 := rfl
@[simp] theorem signOf_false : signOf false = 1 := rfl
@[simp] theorem abs_signOf_mul (neg : Bool) (x : ℝ) : |signOf neg * x| = |x| := by cases neg <;> simp

/-- The number a finite datum stands for, over the reals. -/
theorem FpVal.rat_fin (neg : Bool) (m : Nat) (q : Int) : (((FpVal.fin neg m q).rat : ℚ) : ℝ) = signOf neg * (m * (2 : ℝ) ^ q) := by
  cases neg <;> simp [FpVal.rat]

/-- The number of the pattern `n` without a sign, said also of the infinity's pattern: there the number with which an unbounded
exponent would go on. -/
noncomputable def FpFmt.magnitude (F : FpFmt) (n : Nat) : ℝ :=
  (if n < 2 ^ (F.prec - 1) then n else n % 2 ^ (F.prec - 1) + 2 ^ (F.prec - 1) : Nat) *
    (2 : ℝ) ^ (((n / 2 ^ (F.prec - 1) - 1 : Nat) : Int) + F.qmin)

theorem FpFmt.magnitude_zero (F : FpFmt) : F.magnitude 0 = 0 := by simp [FpFmt.magnitude]

theorem FpFmt.withSign_div_signBit {F : FpFmt} (neg : Bool) {n : Nat} (hn : n < F.signBit) :
    F.withSign neg n / F.signBit = if neg then 1 else 0 := by
  have hpos : 0 < F.signBit := by omega
  cases neg
  · simp [FpFmt.withSign, Nat.div_eq_of_lt hn]
  · simp [FpFmt.withSign, Nat.add_div_left _ hpos, Nat.div_eq_of_lt hn]

section Order
variable {F : FpFmt} (hF : F.Roomy)
include hF

theorem FpFmt.Roomy.two_pow_prec : 2 ^ F.prec = 2 * 2 ^ (F.prec - 1) := by
  rw [← Nat.pow_succ', Nat.succ_eq_add_one, Nat.sub_add_cancel (by have := hF.prec; omega)]

/-- The encoding of `n` units of the last place: a carry out of the significand moves into the exponent field. -/
theorem FpFmt.Roomy.magnitude_grid {k n : Nat} (hn : n ≤ 2 ^ F.prec) (hk : k = 0 ∨ 2 ^ (F.prec - 1) ≤ n) :
    F.magnitude (k * 2 ^ (F.prec - 1) + n) = n * (2 : ℝ) ^ ((k : Int) + F.qmin) := by
  have hP : 0 < 2 ^ (F.prec - 1) := Nat.two_pow_pos _
  rw [hF.two_pow_prec] at hn
  unfold FpFmt.magnitude
  generalize 2 ^ (F.prec - 1) = P at *
  have hdiv : (k * P + n) / P = k + n / P := by rw [Nat.mul_comm, Nat.mul_add_div hP]
  have hmod : (k * P + n) % P = n % P := by rw [Nat.mul_comm, Nat.mul_add_mod]
  rw [hdiv, hmod]
  rcases lt_or_ge n P with hlt | hge
  · obtain rfl : k = 0 := hk.resolve_right (by omega)
    simp [Nat.div_eq_of_lt hlt, hlt]
  · have hbig : ¬ k * P + n < P := by
      have := Nat.zero_le (k * P)
      omega
    rw [if_neg hbig]
    rcases hn.lt_or_eq with hlt | rfl
    · have hq : n / P = 1 := Nat.div_eq_of_lt_le (by omega) (by omega)
      have hr : n % P + P = n := by have := Nat.div_add_mod n P; rw [hq] at this; omega
      rw [hq, hr]
      simp
    · have hq : 2 * P / P = 2 := Nat.mul_div_cancel _ hP
      rw [hq, Nat.mul_mod_left, show k + 2 - 1 = k + 1 from rfl]
      push_cast
      rw [show (k : Int) + 1 + F.qmin = (k + F.qmin) + 1 by ring, zpow_add_one₀ two_ne_zero]
      ring

/-- Every pattern is some number of units of the last place. -/
theorem FpFmt.Roomy.exists_grid (N : Nat) : ∃ k n, N = k * 2 ^ (F.prec - 1) + n ∧ n < 2 ^ F.prec ∧
    (k = 0 ∨ 2 ^ (F.prec - 1) ≤ n) := by
  have hP : 0 < 2 ^ (F.prec - 1) := Nat.two_pow_pos _
  rw [hF.two_pow_prec]
  generalize 2 ^ (F.prec - 1) = P at *
  rcases lt_or_ge N P with hlt | hge
  · exact ⟨0, N, by simp, by omega, .inl rfl⟩
  · have hmod := Nat.mod_lt N hP
    have hdiv : 1 ≤ N / P := (Nat.one_le_div_iff hP).mpr hge
    refine ⟨N / P - 1, N % P + P, ?_, by omega, .inr (by omega)⟩
    have := Nat.div_add_mod N P
    have hmul : (N / P - 1) * P + P = P * (N / P) := by
      rw [← Nat.succ_mul, Nat.succ_eq_add_one, Nat.sub_add_cancel hdiv, Nat.mul_comm]
    omega

theorem FpFmt.Roomy.magnitude_lt_succ (N : Nat) : F.magnitude N < F.magnitude (N + 1) := by
  obtain ⟨k, n, rfl, hn, hk⟩ := hF.exists_grid N
  rw [Nat.add_assoc, hF.magnitude_grid hn.le hk, hF.magnitude_grid hn (hk.imp_right (by omega))]
  have : (0 : ℝ) < 2 ^ ((k : Int) + F.qmin) := by positivity
  push_cast
  linarith

theorem FpFmt.Roomy.magnitude_strictMono : StrictMono F.magnitude := strictMono_nat_of_lt_succ hF.magnitude_lt_succ

theorem FpFmt.Roomy.magnitude_nonneg (n : Nat) : 0 ≤ F.magnitude n := by
  rw [← F.magnitude_zero]
  exact hF.magnitude_strictMono.monotone (Nat.zero_le n)

theorem FpFmt.Roomy.signBit_eq : F.signBit = 2 ^ F.ebits * 2 ^ (F.prec - 1) := by
  rw [FpFmt.signBit, ← Nat.pow_add]
  congr 1
  have := hF.prec
  omega

theorem FpFmt.Roomy.four_le_two_pow_ebits : 4 ≤ 2 ^ F.ebits := Nat.pow_le_pow_right (by norm_num : 0 < 2) hF.ebits

theorem FpFmt.Roomy.infBits_lt_signBit : F.infBits < F.signBit := by
  rw [hF.signBit_eq, FpFmt.infBits]
  have := hF.four_le_two_pow_ebits
  exact Nat.mul_lt_mul_of_pos_right (by omega) (Nat.two_pow_pos _)

theorem FpFmt.Roomy.two_le_infBits : 2 ≤ F.infBits := by
  have h4 := hF.four_le_two_pow_ebits
  have hP := Nat.two_pow_pos (F.prec - 1)
  unfold FpFmt.infBits
  nlinarith [Nat.sub_add_cancel (show 1 ≤ 2 ^ F.ebits by omega)]

theorem FpFmt.Roomy.infBits_even : F.infBits % 2 = 0 := by
  have := hF.prec
  rw [FpFmt.infBits, show F.prec - 1 = F.prec - 2 + 1 by omega, Nat.pow_succ, ← Nat.mul_assoc, Nat.mul_mod_left]

theorem FpFmt.Roomy.withSign_mod_two (neg : Bool) (n : Nat) : F.withSign neg n % 2 = n % 2 := by
  have := hF.prec
  cases neg
  · rfl
  · rw [FpFmt.withSign, if_pos rfl, FpFmt.signBit, show F.prec + F.ebits - 1 = F.prec + F.ebits - 2 + 1 by omega,
      Nat.pow_succ, Nat.mul_comm, Nat.mul_add_mod]

/-! ## Patterns and what they stand for -/

/-- The fields of a pattern below the infinity's, with either sign. -/
theorem FpFmt.Roomy.fields_withSign (neg : Bool) {n : Nat} (hn : n < F.infBits) :
    F.withSign neg n % 2 ^ (F.prec - 1) = n % 2 ^ (F.prec - 1) ∧
    F.withSign neg n / 2 ^ (F.prec - 1) % 2 ^ F.ebits = n / 2 ^ (F.prec - 1) ∧
    n / 2 ^ (F.prec - 1) < 2 ^ F.ebits - 1 := by
  have hP : 0 < 2 ^ (F.prec - 1) := Nat.two_pow_pos _
  have hex : n / 2 ^ (F.prec - 1) < 2 ^ F.ebits - 1 := (Nat.div_lt_iff_lt_mul hP).mpr hn
  have hmod : n / 2 ^ (F.prec - 1) % 2 ^ F.ebits = n / 2 ^ (F.prec - 1) := Nat.mod_eq_of_lt (hex.trans_le (Nat.sub_le _ _))
  cases neg
  · exact ⟨rfl, hmod, hex⟩
  · simp only [FpFmt.withSign, if_true, hF.signBit_eq]
    refine ⟨Nat.mul_add_mod_self_right _ _ _, ?_, hex⟩
    rw [Nat.mul_comm, Nat.mul_add_div hP, Nat.add_mod_left, hmod]

/-- A pattern below the infinity's stands for its magnitude with its sign. -/
theorem FpFmt.Roomy.unpack_withSign (neg : Bool) {n : Nat} (hn : n < F.infBits) : ∃ m q,
    F.unpack (F.withSign neg n) = .fin neg m q ∧ (m : ℝ) * (2 : ℝ) ^ q = F.magnitude n := by
  obtain ⟨hfrac, hex, hlt⟩ := hF.fields_withSign neg hn
  have hsign : decide (F.withSign neg n / F.signBit % 2 = 1) = neg := by
    rw [FpFmt.withSign_div_signBit neg (hn.trans hF.infBits_lt_signBit)]
    cases neg <;> rfl
  have hP : 0 < 2 ^ (F.prec - 1) := Nat.two_pow_pos _
  unfold FpFmt.unpack FpFmt.magnitude
  simp only [hfrac, hex, hsign, hlt.ne, if_false]
  by_cases hsub : n / 2 ^ (F.prec - 1) = 0
  · have hsmall : n < 2 ^ (F.prec - 1) := (Nat.div_eq_zero_iff_lt hP).mp hsub
    rw [if_pos hsub]
    exact ⟨_, _, rfl, by rw [if_pos hsmall, hsub, Nat.mod_eq_of_lt hsmall, Nat.zero_sub, Nat.cast_zero, zero_add]⟩
  · have hbig : ¬ n < 2 ^ (F.prec - 1) := mt (Nat.div_eq_zero_iff_lt hP).mpr hsub
    rw [if_neg hsub]
    exact ⟨_, _, rfl, by rw [if_neg hbig, Nat.cast_sub (Nat.one_le_iff_ne_zero.mpr hsub), Nat.cast_one]⟩

theorem FpFmt.Roomy.rat_withSign (neg : Bool) {n : Nat} (hn : n < F.infBits) :
    (((F.unpack (F.withSign neg n)).rat : ℚ) : ℝ) = signOf neg * F.magnitude n := by
  obtain ⟨m, q, hunpack, hvalue⟩ := hF.unpack_withSign neg hn
  rw [hunpack, FpVal.rat_fin, hvalue]

theorem FpFmt.Roomy.finiteBits_withSign (neg : Bool) {n : Nat} (hn : n < F.infBits) : F.FiniteBits (F.withSign neg n) := by
  obtain ⟨m, q, hunpack, -⟩ := hF.unpack_withSign neg hn
  have hlt := hn.trans hF.infBits_lt_signBit
  have htwo : 2 ^ (F.prec + F.ebits) = 2 * F.signBit := by
    rw [FpFmt.signBit, ← Nat.pow_succ', Nat.succ_eq_add_one, Nat.sub_add_cancel (by have := hF.prec; omega)]
  refine ⟨?_, by rw [hunpack]; exact ⟨rfl, rfl⟩⟩
  rw [htwo]
  cases neg
  · exact lt_of_lt_of_le hlt (by omega)
  · simp only [FpFmt.withSign, if_true]
    omega

/-- Every pattern that stands for a finite number is a magnitude below the infinity's with a sign. -/
theorem FpFmt.Roomy.eq_withSign_of_finiteBits {b : Nat} (h : F.FiniteBits b) : ∃ neg n, n < F.infBits ∧ b = F.withSign neg n := by
  obtain ⟨hb, hfin⟩ := h
  have htwo : 2 ^ (F.prec + F.ebits) = 2 * F.signBit := by
    rw [FpFmt.signBit, ← Nat.pow_succ', Nat.succ_eq_add_one, Nat.sub_add_cancel (by have := hF.prec; omega)]
  have hpos : 0 < F.signBit := lt_of_le_of_lt (Nat.zero_le _) hF.infBits_lt_signBit
  have hP : 0 < 2 ^ (F.prec - 1) := Nat.two_pow_pos _
  refine ⟨decide (F.signBit ≤ b), b % F.signBit, ?_, ?_⟩
  · by_contra hge
    have hex : b / 2 ^ (F.prec - 1) % 2 ^ F.ebits = 2 ^ F.ebits - 1 := by
      have hlt : b / 2 ^ (F.prec - 1) % 2 ^ F.ebits < 2 ^ F.ebits := Nat.mod_lt _ (Nat.two_pow_pos _)
      have hle : 2 ^ F.ebits - 1 ≤ b % F.signBit / 2 ^ (F.prec - 1) := (Nat.le_div_iff_mul_le hP).mpr (not_lt.mp hge)
      rw [hF.signBit_eq, Nat.mul_comm, Nat.mod_mul_right_div_self] at hle
      omega
    unfold FpFmt.unpack at hfin
    simp only [hex, if_true] at hfin
    split at hfin
    · exact absurd hfin.2 (by simp [FpVal.isInf])
    · exact absurd hfin.1 (by simp [FpVal.isNan])
  · by_cases hle : F.signBit ≤ b
    · simp only [FpFmt.withSign, hle, decide_true, if_true]
      rw [Nat.mod_eq_sub_mod hle, Nat.mod_eq_of_lt (by omega)]
      omega
    · simp [FpFmt.withSign, hle, Nat.mod_eq_of_lt (not_le.mp hle)]

theorem FpFmt.Roomy.represents_iff {z : ℚ} : F.Represents z ↔ ∃ neg n, n < F.infBits ∧ (z : ℝ) = signOf neg * F.magnitude n := by
  constructor
  · rintro ⟨b, hb, rfl⟩
    obtain ⟨neg, n, hn, rfl⟩ := hF.eq_withSign_of_finiteBits hb
    exact ⟨neg, n, hn, hF.rat_withSign neg hn⟩
  · rintro ⟨neg, n, hn, hz⟩
    refine ⟨_, hF.finiteBits_withSign neg hn, ?_⟩
    have := hF.rat_withSign neg hn
    exact_mod_cast this.trans hz.symm

/-- No number of the format lies between two neighbours, nor between their negatives. -/
theorem FpFmt.Roomy.represents_gap {z : ℚ} (h : F.Represents z) (neg : Bool) (n : Nat) :
    signOf neg * z ≤ F.magnitude n ∨ F.magnitude (n + 1) ≤ signOf neg * z := by
  obtain ⟨neg', k, -, hz⟩ := hF.represents_iff.mp h
  have hcases : signOf neg * z = F.magnitude k ∨ signOf neg * z = -F.magnitude k := by
    rw [hz]
    cases neg <;> cases neg' <;> simp
  rcases hcases with hk | hk
  · rw [hk]
    exact (Nat.lt_or_ge n k).symm.imp (fun h => hF.magnitude_strictMono.monotone h) fun h => hF.magnitude_strictMono.monotone h
  · left
    have h1 := hF.magnitude_nonneg k
    have h2 := hF.magnitude_nonneg n
    linarith

/-! ## The bounds of the format -/

theorem FpFmt.Roomy.largest_eq : ((F.largest : ℚ) : ℝ) = F.magnitude (F.infBits - 1) := by
  have h := hF.rat_withSign false (show F.infBits - 1 < F.infBits by have := hF.two_le_infBits; omega)
  rwa [signOf_false, one_mul] at h

theorem FpFmt.Roomy.two_bias : 2 ^ F.ebits = 2 * F.bias + 2 := by
  have hpow : 2 ^ F.ebits = 2 * 2 ^ (F.ebits - 1) := by
    rw [← Nat.pow_succ', Nat.succ_eq_add_one, Nat.sub_add_cancel (by have := hF.ebits; omega)]
  have := Nat.two_pow_pos (F.ebits - 1)
  unfold FpFmt.bias
  omega

theorem FpFmt.Roomy.two_pow_mul_zpow (t : Int) : (((2 ^ (F.prec - 1) : Nat) : ℝ)) * (2 : ℝ) ^ t = (2 : ℝ) ^ (t + ((F.prec : Int) - 1)) := by
  have := hF.prec
  rw [add_comm, zpow_add₀ two_ne_zero, show ((F.prec : Int) - 1) = ((F.prec - 1 : Nat) : Int) by omega, zpow_natCast]
  push_cast
  rfl

theorem FpFmt.Roomy.beyond_eq : ((F.beyond : ℚ) : ℝ) = F.magnitude F.infBits := by
  have hb := hF.two_bias
  have h4 := hF.four_le_two_pow_ebits
  have hgrid : F.infBits = (2 ^ F.ebits - 2) * 2 ^ (F.prec - 1) + 2 ^ (F.prec - 1) := by
    rw [FpFmt.infBits, ← Nat.succ_mul]
    congr 1
    omega
  rw [hgrid, hF.magnitude_grid (by rw [hF.two_pow_prec]; omega) (.inr le_rfl), hF.two_pow_mul_zpow, FpFmt.beyond]
  push_cast
  rw [← zpow_natCast]
  congr 1
  simp only [FpFmt.qmin, FpFmt.emin]
  omega

theorem FpFmt.Roomy.smallestNormal_eq : ((F.smallestNormal : ℚ) : ℝ) = F.magnitude (2 ^ (F.prec - 1)) := by
  have := hF.magnitude_grid (k := 0) (n := 2 ^ (F.prec - 1)) (by rw [hF.two_pow_prec]; omega) (.inl rfl)
  rw [Nat.zero_mul, Nat.zero_add, hF.two_pow_mul_zpow] at this
  rw [this, FpFmt.smallestNormal]
  push_cast
  congr 1
  simp only [FpFmt.qmin, FpFmt.emin]
  ring

end Order
end Sys2Proof.Machine

namespace Sys2Proof.Machine

/-! ## Rounding up or down between two neighbours -/

/-- Is a magnitude `x` from `lo` upward and below `hi` rounded to `hi` (R331)? `odd` says whether the pattern of `lo` is odd, which
decides a tie. -/
def Rounding.GoesUp (rd : Rounding) (neg odd : Bool) (x lo hi : ℝ) : Prop :=
  match rd with
  | .nearestEven => (lo + hi) / 2 < x ∨ (x = (lo + hi) / 2 ∧ odd = true)
  | .towardZero => False
  | .up => neg = false ∧ lo < x
  | .down => neg = true ∧ lo < x

/-- The answer does not depend on the unit. -/
theorem Rounding.goesUp_mul {u : ℝ} (hu : 0 < u) (rd : Rounding) (neg odd : Bool) (x lo hi : ℝ) :
    rd.GoesUp neg odd (x * u) (lo * u) (hi * u) ↔ rd.GoesUp neg odd x lo hi := by
  have hmid : (lo * u + hi * u) / 2 = (lo + hi) / 2 * u := by ring
  cases rd <;> simp only [Rounding.GoesUp, hmid, mul_lt_mul_iff_left₀ hu, mul_left_inj' hu.ne']

/-- A number of the format stays where it is. -/
theorem Rounding.not_goesUp_self (rd : Rounding) (neg odd : Bool) {lo hi : ℝ} (h : lo < hi) : ¬ rd.GoesUp neg odd lo lo hi := by
  have hmid : lo < (lo + hi) / 2 := by linarith
  cases rd <;> simp [Rounding.GoesUp, hmid.not_gt, hmid.ne]

/-! ## Naturals that stand for reals -/

/-- Up to rounding, the natural `m` stands for the real `x`: it is `x`, or it is odd with more than `bits` bits and `x` lies
between its two even neighbours. -/
def StandsFor (bits m : Nat) (x : ℝ) : Prop := x = m ∨ (m % 2 = 1 ∧ 2 ^ bits ≤ m ∧ (m : ℝ) - 1 < x ∧ x < m + 1)

section Stands
variable {bits m : Nat} {x : ℝ} (h : StandsFor bits m x)
include h

/-- Such a natural compares as the real does with every multiple of 2. -/
theorem StandsFor.compare {c : Nat} (hc : 2 ^ bits ≤ m → 4 ∣ c) : (c ≤ 2 * m ↔ (c : ℝ) ≤ 2 * x) ∧ (2 * m = c ↔ 2 * x = c) := by
  rcases h with rfl | ⟨hodd, hbig, hlo, hhi⟩
  · exact ⟨by norm_cast, by norm_cast⟩
  · obtain ⟨d, rfl⟩ := hc hbig
    have hle : 4 * d ≤ 2 * m → 4 * d + 2 ≤ 2 * m := by omega
    have hge : ¬ 4 * d ≤ 2 * m → 2 * m + 2 ≤ 4 * d := by omega
    by_cases hd : 4 * d ≤ 2 * m
    · have : ((4 * d + 2 : Nat) : ℝ) ≤ (2 * m : Nat) := by exact_mod_cast hle hd
      push_cast at this
      refine ⟨iff_of_true hd (by push_cast; linarith), iff_of_false (by omega) ?_⟩
      push_cast
      linarith
    · have : ((2 * m + 2 : Nat) : ℝ) ≤ (4 * d : Nat) := by exact_mod_cast hge hd
      push_cast at this
      refine ⟨iff_of_false hd (by push_cast; linarith), iff_of_false (by omega) ?_⟩
      push_cast
      linarith

theorem StandsFor.pos (hm : 0 < m) : 0 < x := by
  rcases h with rfl | ⟨hodd, -, hlo, -⟩
  · exact_mod_cast hm
  · have : (1 : ℝ) ≤ m := by exact_mod_cast hm
    linarith

theorem StandsFor.eq_of_lt (hm : m < 2 ^ bits) : x = m := h.resolve_right fun h => absurd h.2.1 (by omega)

theorem StandsFor.two_pow_log2_le (hbits : 1 ≤ bits) (hm : 0 < m) : (2 : ℝ) ^ m.log2 ≤ x ∧ x < (2 : ℝ) ^ (m.log2 + 1) := by
  have hlog : 2 ^ bits ≤ m → 1 ≤ m.log2 := fun hbig => hbits.trans ((Nat.le_log2 hm.ne').mpr hbig)
  have hlo := (h.compare (c := 2 * 2 ^ m.log2) fun hbig =>
    Nat.mul_dvd_mul_left 2 (dvd_pow_self 2 (Nat.one_le_iff_ne_zero.mp (hlog hbig)))).1
  have hhi := (h.compare (c := 2 * 2 ^ (m.log2 + 1)) fun _ => Nat.mul_dvd_mul_left 2 (dvd_pow_self 2 (Nat.succ_ne_zero _))).1
  push_cast at hlo hhi
  have h1 := hlo.mp (Nat.mul_le_mul_left 2 (Nat.log2_self_le hm.ne'))
  have h2 := mt hhi.mpr (by have := @Nat.lt_log2_self m; omega)
  constructor <;> linarith

/-- With `sh` bits cut off it still compares as the real number does, with the half integers. -/
theorem StandsFor.compare_shift {sh : Nat} (hsh : 2 ^ bits ≤ m → 2 ≤ sh) (c : Nat) :
    (c * 2 ^ sh ≤ 2 * m ↔ (c : ℝ) / 2 ≤ x / 2 ^ sh) ∧ (2 * m = c * 2 ^ sh ↔ x / 2 ^ sh = (c : ℝ) / 2) := by
  have hu : (0 : ℝ) < 2 ^ sh := by positivity
  obtain ⟨hle, heq⟩ := h.compare (c := c * 2 ^ sh) fun hbig => (pow_dvd_pow 2 (hsh hbig)).mul_left c
  rw [hle, heq, le_div_iff₀ hu, div_eq_iff hu.ne']
  push_cast
  constructor <;> constructor <;> intro <;> linarith

/-- With `sh` bits cut off the quotient brackets the real number. -/
theorem StandsFor.shift_bracket {sh : Nat} (hsh : 2 ^ bits ≤ m → 2 ≤ sh) :
    ((m / 2 ^ sh : Nat) : ℝ) ≤ x / 2 ^ sh ∧ x / 2 ^ sh < (m / 2 ^ sh : Nat) + 1 := by
  have hlo := (h.compare_shift hsh (2 * (m / 2 ^ sh))).1.mp (by
    rw [Nat.mul_assoc]
    exact Nat.mul_le_mul_left 2 (Nat.div_mul_le_self m _))
  have hhi := mt (h.compare_shift hsh (2 * (m / 2 ^ sh + 1))).1.mpr (by
    rw [Nat.mul_assoc, not_le]
    exact Nat.mul_lt_mul_of_pos_left (Nat.lt_mul_of_div_lt (Nat.lt_succ_self _) (Nat.two_pow_pos sh)) two_pos)
  push_cast at hlo hhi
  constructor <;> linarith

/-- The remainder says whether the real number is hit. -/
theorem StandsFor.shift_exact {sh : Nat} (hsh : 2 ^ bits ≤ m → 2 ≤ sh) :
    m % 2 ^ sh = 0 ↔ x / 2 ^ sh = (m / 2 ^ sh : Nat) := by
  have heq := (h.compare_shift hsh (2 * (m / 2 ^ sh))).2
  rw [Nat.mul_assoc, mul_comm (m / 2 ^ sh)] at heq
  push_cast at heq
  rw [mul_div_cancel_left₀ _ two_ne_zero] at heq
  rw [← heq]
  have := Nat.div_add_mod m (2 ^ sh)
  omega

/-- The direction rounds the quotient as it would round the real number (R331). -/
theorem StandsFor.increments_iff (rd : Rounding) (neg : Bool) {sh : Nat} (hsh : 2 ^ bits ≤ m → 2 ≤ sh) :
    rd.increments neg (m / 2 ^ sh) (m % 2 ^ sh) (2 ^ sh) = true ↔
      rd.GoesUp neg (m / 2 ^ sh % 2 == 1) (x / 2 ^ sh) (m / 2 ^ sh : Nat) ((m / 2 ^ sh : Nat) + 1) := by
  obtain ⟨hle, heq⟩ := h.compare_shift hsh (2 * (m / 2 ^ sh) + 1)
  have htwice : 2 * m = 2 * (m / 2 ^ sh) * 2 ^ sh + 2 * (m % 2 ^ sh) := by
    conv_lhs => rw [← Nat.div_add_mod m (2 ^ sh)]
    ring
  have hhalf : ((2 * (m / 2 ^ sh) + 1 : Nat) : ℝ) / 2 = ((m / 2 ^ sh : Nat) + ((m / 2 ^ sh : Nat) + 1)) / 2 := by
    push_cast
    ring
  rw [hhalf, Nat.add_mul, Nat.one_mul] at hle heq
  have htie : 2 * (m % 2 ^ sh) = 2 ^ sh ↔ x / 2 ^ sh = ((m / 2 ^ sh : Nat) + ((m / 2 ^ sh : Nat) + 1)) / 2 := by
    rw [← heq]
    omega
  have habove : 2 ^ sh < 2 * (m % 2 ^ sh) ↔ ((m / 2 ^ sh : Nat) + ((m / 2 ^ sh : Nat) + 1)) / 2 < x / 2 ^ sh := by
    conv_rhs => rw [lt_iff_le_and_ne, ← hle, ne_comm, Ne, ← heq]
    omega
  have hpos : m % 2 ^ sh ≠ 0 ↔ ((m / 2 ^ sh : Nat) : ℝ) < x / 2 ^ sh := by
    rw [Ne, h.shift_exact hsh]
    exact ⟨fun hne => lt_of_le_of_ne (h.shift_bracket hsh).1 (Ne.symm hne), fun hlt hx => hlt.ne' hx⟩
  cases rd <;> simp only [Rounding.increments, Rounding.GoesUp, Bool.or_eq_true, Bool.and_eq_true, decide_eq_true_eq,
    Bool.not_eq_true', bne_iff_ne, Bool.false_eq_true, habove, htie, hpos]

end Stands

end Sys2Proof.Machine

namespace Sys2Proof.Machine

/-! ## From the chosen neighbour to the statement -/

/-- `mag` is the pattern to which the magnitude `x` is rounded, `n` the pattern below or at it: the upper neighbour when the
direction goes up, else `n` itself. -/
structure FpFmt.RoundsTo (F : FpFmt) (rd : Rounding) (neg : Bool) (x : ℝ) (n mag : Nat) : Prop where
  lower : F.magnitude n ≤ x
  upper : x < F.magnitude (n + 1)
  choice : (rd.GoesUp neg (n % 2 == 1) x (F.magnitude n) (F.magnitude (n + 1)) ∧ mag = n + 1) ∨
    (¬ rd.GoesUp neg (n % 2 == 1) x (F.magnitude n) (F.magnitude (n + 1)) ∧ mag = n)

theorem Rounding.lt_of_goesUp {rd : Rounding} {neg odd : Bool} {x lo hi : ℝ} (h : lo < hi) (hup : rd.GoesUp neg odd x lo hi) :
    lo < x := by
  cases rd with
  | nearestEven => rcases hup with hup | ⟨hup, -⟩ <;> linarith
  | towardZero => exact hup.elim
  | up => exact hup.2
  | down => exact hup.2

/-- A sign is its own inverse, so it may stand on either number of a distance. -/
theorem abs_signOf_mul_sub (neg : Bool) (x z : ℝ) : |signOf neg * x - z| = |x - signOf neg * z| := by
  cases neg
  · simp
  · rw [← abs_neg]
    congr 1
    simp only [signOf_true]
    ring

theorem signOf_mul_signOf_mul (neg : Bool) (x : ℝ) : signOf neg * (signOf neg * x) = x := by cases neg <;> simp

/-- Overflow of a magnitude: it is beyond the format's numbers, or rounds up to the first number beyond (R332). -/
theorem FpFmt.Roomy.overflows_signOf {F : FpFmt} (hF : F.Roomy) (rd : Rounding) (neg : Bool) {x : ℝ} (hx : 0 < x) :
    F.Overflows rd (signOf neg * x) ↔ F.magnitude F.infBits ≤ x ∨
      rd.GoesUp neg true x (F.magnitude (F.infBits - 1)) (F.magnitude F.infBits) := by
  have htop := hF.two_le_infBits
  have hlt : F.magnitude (F.infBits - 1) < F.magnitude F.infBits := hF.magnitude_strictMono (by omega)
  have hnonneg := hF.magnitude_nonneg (F.infBits - 1)
  have habs : |signOf neg * x| = x := by rw [abs_signOf_mul, abs_of_pos hx]
  have hdirected : ∀ a b : ℝ, a < b → (b ≤ x ∨ a < x ↔ a < x) := fun a b hab =>
    ⟨fun h => h.elim (lt_of_lt_of_le hab) id, .inr⟩
  cases rd with
  | nearestEven =>
    simp only [FpFmt.Overflows, Rounding.GoesUp, habs, and_true, ← le_iff_lt_or_eq']
    push_cast
    rw [hF.largest_eq, hF.beyond_eq]
    constructor
    · exact .inr
    · rintro (h | h) <;> linarith
  | towardZero => simp only [FpFmt.Overflows, Rounding.GoesUp, habs, hF.beyond_eq, or_false]
  | up =>
    simp only [FpFmt.Overflows, Rounding.GoesUp, hF.largest_eq, hF.beyond_eq]
    cases neg
    · have : ¬ x ≤ -F.magnitude F.infBits := by linarith
      simp [this, hdirected _ _ hlt]
    · have : ¬ F.magnitude (F.infBits - 1) < -x := by linarith
      simp [this]
  | down =>
    simp only [FpFmt.Overflows, Rounding.GoesUp, hF.largest_eq, hF.beyond_eq]
    cases neg
    · have : ¬ x < -F.magnitude (F.infBits - 1) := by linarith
      simp [this]
    · have : ¬ F.magnitude F.infBits ≤ -x := by linarith
      simp [this, hdirected _ _ hlt]

section RoundsTo
variable {F : FpFmt} {rd : Rounding} {neg : Bool} {x : ℝ} {n mag : Nat}

theorem FpFmt.RoundsTo.le_succ (h : F.RoundsTo rd neg x n mag) : n ≤ mag ∧ mag ≤ n + 1 := by
  rcases h.choice with ⟨-, rfl⟩ | ⟨-, rfl⟩ <;> omega

/-- The result is exact when the pattern below is. -/
theorem FpFmt.RoundsTo.eq_of_exact (h : F.RoundsTo rd neg x n mag) (hx : x = F.magnitude n) : mag = n := by
  rcases h.choice with ⟨hup, -⟩ | ⟨-, hmag⟩
  · rw [hx] at hup
    exact absurd hup (rd.not_goesUp_self _ _ (lt_of_le_of_lt h.lower h.upper))
  · exact hmag

/-- The result is exact exactly when the pattern below is. -/
theorem FpFmt.RoundsTo.exact_iff (h : F.RoundsTo rd neg x n mag) :
    signOf neg * x = signOf neg * F.magnitude mag ↔ x = F.magnitude n := by
  have hsign : signOf neg ≠ 0 := by cases neg <;> simp
  rw [mul_right_inj' hsign]
  constructor
  · intro hx
    rcases h.choice with ⟨-, rfl⟩ | ⟨-, rfl⟩
    · exact absurd hx h.upper.ne
    · exact hx
  · intro hx
    rwa [h.eq_of_exact hx]

/-- Rounding reaches the infinity's pattern exactly when the number overflows (R332). -/
theorem FpFmt.RoundsTo.overflows_iff (hF : F.Roomy) (hx : 0 < x) (h : F.RoundsTo rd neg x n mag) :
    F.Overflows rd (signOf neg * x) ↔ F.infBits ≤ mag := by
  have htop := hF.two_le_infBits
  have hmono := hF.magnitude_strictMono
  rw [hF.overflows_signOf rd neg hx]
  rcases lt_trichotomy (n + 1) F.infBits with hn | hn | hn
  · have hsmall : x < F.magnitude (F.infBits - 1) := lt_of_lt_of_le h.upper (hmono.monotone (by omega))
    have hlt : F.magnitude (F.infBits - 1) < F.magnitude F.infBits := hmono (by omega)
    have := h.le_succ
    refine iff_of_false (not_or.mpr ⟨not_le.mpr (hsmall.trans hlt), fun hup => ?_⟩) (by omega)
    exact hsmall.not_gt (Rounding.lt_of_goesUp hlt hup)
  · obtain rfl : n = F.infBits - 1 := by omega
    have hodd : ((F.infBits - 1) % 2 == 1) = true := by
      have := hF.infBits_even
      rw [beq_iff_eq]
      omega
    have hupper := h.upper
    have hchoice := h.choice
    rw [hn] at hupper hchoice
    rw [hodd] at hchoice
    rw [or_iff_right (not_le.mpr hupper)]
    rcases hchoice with ⟨hup, hmag⟩ | ⟨hup, hmag⟩
    · exact iff_of_true hup hmag.ge
    · exact iff_of_false hup (by omega)
  · have := h.le_succ
    exact iff_of_true (.inl ((hmono.monotone (by omega)).trans h.lower)) (by omega)

/-- A magnitude that is not rounded up goes to the largest number of the format that is at most it, on either side of zero. -/
theorem FpFmt.RoundsTo.toward_zero (hF : F.Roomy) (h : F.RoundsTo rd neg x n mag)
    (hdown : ¬ rd.GoesUp neg (n % 2 == 1) x (F.magnitude n) (F.magnitude (n + 1))) :
    F.magnitude mag ≤ x ∧ ∀ z, F.Represents z → ∀ neg' : Bool, signOf neg' * z ≤ x → signOf neg' * z ≤ F.magnitude mag := by
  obtain ⟨-, rfl⟩ := h.choice.resolve_left fun hup => hdown hup.1
  exact ⟨h.lower, fun z hz neg' hle =>
    (hF.represents_gap hz neg' mag).resolve_right (not_le.mpr (lt_of_le_of_lt hle h.upper))⟩

/-- A magnitude that is rounded up unless it is exact goes to the smallest number of the format that is at least it. -/
theorem FpFmt.RoundsTo.away_from_zero (hF : F.Roomy) (h : F.RoundsTo rd neg x n mag)
    (hup : F.magnitude n < x → rd.GoesUp neg (n % 2 == 1) x (F.magnitude n) (F.magnitude (n + 1))) :
    x ≤ F.magnitude mag ∧ ∀ z, F.Represents z → ∀ neg' : Bool, x ≤ signOf neg' * z → F.magnitude mag ≤ signOf neg' * z := by
  rcases h.lower.lt_or_eq with hlt | hexact
  · obtain ⟨-, rfl⟩ := h.choice.resolve_right fun hdown => hdown.1 (hup hlt)
    exact ⟨h.upper.le, fun z hz neg' hle =>
      (hF.represents_gap hz neg' n).resolve_left (not_le.mpr (lt_of_lt_of_le hlt hle))⟩
  · rw [h.eq_of_exact hexact.symm, hexact]
    exact ⟨le_rfl, fun _ _ _ hle => hle⟩

/-- Rounding to nearest, ties to even (R331). -/
theorem FpFmt.RoundsTo.nearest_even (hF : F.Roomy) (h : F.RoundsTo .nearestEven neg x n mag) {z : ℚ} (hz : F.Represents z) :
    |x - F.magnitude mag| ≤ |x - signOf neg * z| ∧
    (signOf neg * z ≠ F.magnitude mag → |x - signOf neg * z| = |x - F.magnitude mag| → mag % 2 = 0) := by
  have hlo := h.lower
  have hhi := h.upper
  rcases h.choice with ⟨hup, rfl⟩ | ⟨hup, rfl⟩
  · have hmid : (F.magnitude n + F.magnitude (n + 1)) / 2 ≤ x := hup.elim le_of_lt fun h => h.1.ge
    rw [abs_of_neg (a := x - F.magnitude (n + 1)) (by linarith)]
    rcases hF.represents_gap hz neg n with hgap | hgap
    · rw [abs_of_nonneg (by linarith)]
      refine ⟨by linarith, fun _ htie => ?_⟩
      have hodd := (hup.resolve_left (by linarith)).2
      rw [beq_iff_eq] at hodd
      omega
    · rw [abs_of_neg (by linarith)]
      exact ⟨by linarith, fun hne htie => absurd (by linarith) hne⟩
  · obtain ⟨hmid, hodd⟩ := not_or.mp hup
    rw [not_lt] at hmid
    rw [abs_of_nonneg (a := x - F.magnitude mag) (by linarith)]
    rcases hF.represents_gap hz neg mag with hgap | hgap
    · rw [abs_of_nonneg (by linarith)]
      exact ⟨by linarith, fun hne htie => absurd (by linarith) hne⟩
    · rw [abs_of_neg (by linarith)]
      refine ⟨by linarith, fun _ htie => ?_⟩
      have heven : ¬ (mag % 2 == 1) = true := fun h => hodd ⟨by linarith, h⟩
      rw [beq_iff_eq] at heven
      omega

/-- The delivered number is the nearest one in the direction (R331). -/
theorem FpFmt.RoundsTo.nearest (hF : F.Roomy) (hx : 0 < x) (h : F.RoundsTo rd neg x n mag) (hmag : mag < F.infBits) :
    F.Nearest rd (signOf neg * x) (F.unpack (F.withSign neg mag)).rat (F.withSign neg mag) := by
  have hy := hF.rat_withSign neg hmag
  generalize (F.unpack (F.withSign neg mag)).rat = y at hy
  cases rd with
  | nearestEven =>
    refine ⟨fun z hz => ?_, fun z hz hne htie => ?_⟩
    · rw [abs_signOf_mul_sub, abs_signOf_mul_sub, hy, signOf_mul_signOf_mul]
      exact (h.nearest_even hF hz).1
    · rw [abs_signOf_mul_sub, abs_signOf_mul_sub, hy, signOf_mul_signOf_mul] at htie
      rw [hF.withSign_mod_two]
      refine (h.nearest_even hF hz).2 (fun heq => hne (Rat.cast_injective (α := ℝ) ?_)) htie
      rw [← signOf_mul_signOf_mul neg (z : ℝ), heq, hy]
  | towardZero =>
    obtain ⟨hle, hmax⟩ := h.toward_zero hF id
    have habs : |(y : ℝ)| = F.magnitude mag := by rw [hy, abs_signOf_mul, abs_of_nonneg (hF.magnitude_nonneg mag)]
    rw [FpFmt.Nearest, habs, abs_signOf_mul, abs_of_pos hx]
    refine ⟨hle, fun z hz hzle => ?_⟩
    obtain ⟨neg', hneg'⟩ : ∃ neg', |(z : ℝ)| = signOf neg' * z := by
      rcases abs_choice (z : ℝ) with h | h
      · exact ⟨false, by rw [h, signOf_false, one_mul]⟩
      · exact ⟨true, by rw [h, signOf_true, neg_one_mul]⟩
    have hreal : |(z : ℝ)| ≤ |(y : ℝ)| := by
      rw [habs, hneg']
      exact hmax z hz neg' (hneg' ▸ hzle)
    exact_mod_cast hreal
  | up =>
    have hcast : ∀ z : ℚ, (y : ℝ) ≤ z → y ≤ z := fun z hz => by exact_mod_cast hz
    cases neg
    · obtain ⟨hle, hmin⟩ := h.away_from_zero hF fun hlt => ⟨rfl, hlt⟩
      simp only [FpFmt.Nearest, signOf_false, one_mul] at hy ⊢
      rw [hy]
      exact ⟨hle, fun z hz hzle => hcast z (by simpa [hy] using hmin z hz false (by simpa using hzle))⟩
    · obtain ⟨hle, hmax⟩ := h.toward_zero hF fun hup => Bool.noConfusion hup.1
      simp only [FpFmt.Nearest, signOf_true, neg_one_mul] at hy ⊢
      rw [hy]
      refine ⟨neg_le_neg hle, fun z hz hzle => hcast z ?_⟩
      have := hmax z hz true (by rw [signOf_true]; linarith)
      rw [signOf_true] at this
      linarith
  | down =>
    have hcast : ∀ z : ℚ, (z : ℝ) ≤ y → z ≤ y := fun z hz => by exact_mod_cast hz
    cases neg
    · obtain ⟨hle, hmax⟩ := h.toward_zero hF fun hup => Bool.noConfusion hup.1
      simp only [FpFmt.Nearest, signOf_false, one_mul] at hy ⊢
      rw [hy]
      exact ⟨hle, fun z hz hzle => hcast z (by simpa [hy] using hmax z hz false (by simpa using hzle))⟩
    · obtain ⟨hle, hmin⟩ := h.away_from_zero hF fun hlt => ⟨rfl, hlt⟩
      simp only [FpFmt.Nearest, signOf_true, neg_one_mul] at hy ⊢
      rw [hy]
      refine ⟨neg_le_neg hle, fun z hz hzle => hcast z ?_⟩
      have := hmin z hz true (by rw [signOf_true]; linarith)
      rw [signOf_true] at this
      linarith

end RoundsTo

end Sys2Proof.Machine

namespace Sys2Proof.Machine

/-! ## Cutting a number off at a unit -/

/-- How many units 2^t the number m * 2^q holds, its rest dropped. -/
def unitsBelow (m : Nat) (q t : Int) : Nat := if t ≤ q then m * 2 ^ (q - t).toNat else m / 2 ^ (t - q).toNat

/-- The same, the rest rounded in the direction. -/
def unitsRounded (rd : Rounding) (neg : Bool) (m : Nat) (q t : Int) : Nat :=
  if t ≤ q then m * 2 ^ (q - t).toNat else rd.shiftRound neg m (t - q).toNat

theorem zpow_toNat_sub {a b : Int} (h : a ≤ b) : (2 : ℝ) ^ (b - a).toNat = (2 : ℝ) ^ b / (2 : ℝ) ^ a := by
  rw [← zpow_natCast, Int.toNat_of_nonneg (by omega), zpow_sub₀ two_ne_zero]

/-- The units below bracket the number, they hit it exactly when no bit is dropped, and the rounded ones are the next units when
the direction goes up. -/
theorem StandsFor.units {bits m : Nat} {x : ℝ} (h : StandsFor bits m x) {q t : Int} (hbits : 2 ^ bits ≤ m → q + 2 ≤ t)
    (rd : Rounding) (neg : Bool) :
    let y := x * 2 ^ q / 2 ^ t
    let n := unitsBelow m q t
    (n : ℝ) ≤ y ∧ y < n + 1 ∧ (q < t ∧ m % 2 ^ (t - q).toNat ≠ 0 ↔ y ≠ n) ∧
      ((rd.GoesUp neg (n % 2 == 1) y n (n + 1) ∧ unitsRounded rd neg m q t = n + 1) ∨
        (¬ rd.GoesUp neg (n % 2 == 1) y n (n + 1) ∧ unitsRounded rd neg m q t = n)) := by
  intro y n
  by_cases ht : t ≤ q
  · have hm : m < 2 ^ bits := not_le.mp fun hbig => by have := hbits hbig; omega
    have hy : y = n := by
      simp only [y, n, unitsBelow, if_pos ht, h.eq_of_lt hm]
      push_cast
      rw [zpow_toNat_sub ht, mul_div_assoc]
    have hr : unitsRounded rd neg m q t = n := by simp only [n, unitsRounded, unitsBelow, if_pos ht]
    have hlt : (n : ℝ) < n + 1 := by linarith
    refine ⟨hy.ge, hy ▸ hlt, iff_of_false (fun h => by omega) (not_not.mpr hy), .inr ⟨?_, hr⟩⟩
    rw [hy]
    exact rd.not_goesUp_self neg _ hlt
  · have hqt : q < t := not_le.mp ht
    have hsh : 2 ^ bits ≤ m → 2 ≤ (t - q).toNat := fun hbig => by have := hbits hbig; omega
    have hy : y = x / 2 ^ (t - q).toNat := by
      simp only [y]
      rw [zpow_toNat_sub hqt.le, div_div_eq_mul_div]
    have hn : n = m / 2 ^ (t - q).toNat := if_neg ht
    have hr : unitsRounded rd neg m q t = n + if rd.increments neg n (m % 2 ^ (t - q).toNat) (2 ^ (t - q).toNat) then 1 else 0 := by
      rw [unitsRounded, if_neg ht, Rounding.shiftRound, hn]
    obtain ⟨hlo, hhi⟩ := h.shift_bracket hsh
    have hexact := h.shift_exact hsh
    have hinc := h.increments_iff rd neg hsh
    rw [← hn, ← hy] at hlo hhi hexact hinc
    refine ⟨hlo, hhi, ?_, ?_⟩
    · rw [Ne, hexact]
      exact and_iff_right hqt
    · rw [← hinc, hr]
      cases rd.increments neg n (m % 2 ^ (t - q).toNat) (2 ^ (t - q).toNat)
      · exact .inr ⟨Bool.false_ne_true, rfl⟩
      · exact .inl ⟨rfl, rfl⟩

/-! ## The rounding operation -/

theorem FpFmt.quantum_cases (F : FpFmt) (e : Int) : F.qmin ≤ F.quantum e ∧ e - ((F.prec : Int) - 1) ≤ F.quantum e ∧
    (F.quantum e = F.qmin ∨ F.quantum e = e - ((F.prec : Int) - 1)) := by
  unfold FpFmt.quantum
  omega

/-- The pattern of so many units of the place 2^t. -/
def FpFmt.encodeUnits (F : FpFmt) (t : Int) (n : Nat) : Nat := (t - F.qmin).toNat * 2 ^ (F.prec - 1) + n

/-- The encoding of units of a place of the format: the number of the pattern, and whether it is odd. -/
theorem FpFmt.Roomy.magnitude_encodeUnits {F : FpFmt} (hF : F.Roomy) {t : Int} (ht : F.qmin ≤ t) {n : Nat} (hn : n ≤ 2 ^ F.prec)
    (hnormal : t = F.qmin ∨ 2 ^ (F.prec - 1) ≤ n) : F.magnitude (F.encodeUnits t n) = n * (2 : ℝ) ^ t := by
  rw [FpFmt.encodeUnits, hF.magnitude_grid hn (hnormal.imp_left fun h => by rw [h, sub_self]; rfl),
    Int.toNat_of_nonneg (by omega), sub_add_cancel]

theorem FpFmt.Roomy.encodeUnits_mod_two {F : FpFmt} (hF : F.Roomy) (t : Int) (n : Nat) : F.encodeUnits t n % 2 = n % 2 := by
  have := hF.prec
  rw [FpFmt.encodeUnits, show F.prec - 1 = F.prec - 2 + 1 by omega, Nat.pow_succ, ← Nat.mul_assoc, Nat.add_comm,
    Nat.add_mul_mod_self_right]

theorem log2_of_big {k m : Nat} (hm : 0 < m) (hbig : 2 ^ k ≤ m) : k ≤ m.log2 := (Nat.le_log2 hm.ne').mpr hbig

/-- The leading bit of the natural is that of the real number. -/
theorem StandsFor.two_zpow_le {bits m : Nat} {x : ℝ} (h : StandsFor bits m x) (hbits : 1 ≤ bits) (hm : 0 < m) (q : Int) :
    (2 : ℝ) ^ (q + (m.log2 : Int)) ≤ x * 2 ^ q ∧ x * 2 ^ q < (2 : ℝ) ^ (q + (m.log2 : Int) + 1) := by
  obtain ⟨hlo, hhi⟩ := h.two_pow_log2_le hbits hm
  have hu : (0 : ℝ) < 2 ^ q := by positivity
  rw [show q + (m.log2 : Int) + 1 = q + ((m.log2 + 1 : Nat) : Int) by push_cast; ring, zpow_add₀ two_ne_zero,
    zpow_add₀ two_ne_zero, zpow_natCast, zpow_natCast, mul_comm x]
  exact ⟨mul_le_mul_of_nonneg_left hlo hu.le, mul_lt_mul_of_pos_left hhi hu⟩

section Round
variable {F : FpFmt} (hF : F.Roomy) {m : Nat} {x : ℝ} (h : StandsFor (F.prec + 2) m x) (hm : 0 < m) (q : Int)
include h hm

/-- The units of a place at or above the one the leading bit gives fit the significand. -/
theorem StandsFor.unitsBelow_lt {t : Int} (ht : q + (m.log2 : Int) - ((F.prec : Int) - 1) ≤ t) :
    unitsBelow m q t < 2 ^ F.prec := by
  have hbits : 2 ^ (F.prec + 2) ≤ m → q + 2 ≤ t := fun hbig => by
    have := log2_of_big hm hbig
    omega
  have : (unitsBelow m q t : ℝ) < 2 ^ F.prec := by
    refine lt_of_le_of_lt (h.units hbits .up false).1
      ((div_lt_iff₀ (by positivity)).mpr ((h.two_zpow_le (by omega) hm q).2.trans_le ?_))
    rw [← zpow_natCast, ← zpow_add₀ two_ne_zero]
    exact zpow_le_zpow_right₀ one_le_two (by omega)
  exact_mod_cast this

include hF

/-- At the place the leading bit gives, they fill it. -/
theorem StandsFor.le_unitsBelow {t : Int} (ht : t = q + (m.log2 : Int) - ((F.prec : Int) - 1)) :
    2 ^ (F.prec - 1) ≤ unitsBelow m q t := by
  have hbits : 2 ^ (F.prec + 2) ≤ m → q + 2 ≤ t := fun hbig => by
    have := log2_of_big hm hbig
    omega
  have : (2 : ℝ) ^ (F.prec - 1) < unitsBelow m q t + 1 := by
    refine lt_of_le_of_lt ((le_div_iff₀ (by positivity)).mpr (le_trans (le_of_eq ?_) (h.two_zpow_le (by omega) hm q).1))
      (h.units hbits .up false).2.1
    have := hF.two_pow_mul_zpow t
    push_cast at this
    rw [this, ht]
    congr 1
    ring
  have : 2 ^ (F.prec - 1) < unitsBelow m q t + 1 := by exact_mod_cast this
  omega

/-- Rounding to the last place that the leading bit gives is `RoundsTo`, and exact when it drops no bit (R331). -/
theorem StandsFor.roundsTo (rd : Rounding) (neg : Bool) :
    let t := F.quantum (q + (m.log2 : Int))
    F.RoundsTo rd neg (x * 2 ^ q) (F.encodeUnits t (unitsBelow m q t)) (F.encodeUnits t (unitsRounded rd neg m q t)) ∧
      (q < t ∧ m % 2 ^ (t - q).toNat ≠ 0 ↔ x * 2 ^ q ≠ F.magnitude (F.encodeUnits t (unitsBelow m q t))) := by
  intro t
  obtain ⟨hmin, hprec, hcases⟩ : F.qmin ≤ t ∧ q + (m.log2 : Int) - ((F.prec : Int) - 1) ≤ t ∧
    (t = F.qmin ∨ t = q + (m.log2 : Int) - ((F.prec : Int) - 1)) := F.quantum_cases _
  have hbits : 2 ^ (F.prec + 2) ≤ m → q + 2 ≤ t := fun hbig => by
    have := log2_of_big hm hbig
    omega
  obtain ⟨hlo, hhi, hexact, hchoice⟩ := h.units hbits rd neg
  have hu : (0 : ℝ) < 2 ^ t := by positivity
  have hX : x * 2 ^ q / 2 ^ t * 2 ^ t = x * 2 ^ q := div_mul_cancel₀ _ hu.ne'
  have hlt := h.unitsBelow_lt hm q hprec
  have hnormal := hcases.imp_right (h.le_unitsBelow hF hm q)
  have hbelow := hF.magnitude_encodeUnits hmin hlt.le hnormal
  have habove := hF.magnitude_encodeUnits hmin hlt (hnormal.imp_right (Nat.le_succ_of_le ·))
  push_cast at habove
  refine ⟨⟨?_, ?_, ?_⟩, ?_⟩
  · rw [hbelow, ← hX]
    exact mul_le_mul_of_nonneg_right hlo hu.le
  · rw [← hX]
    exact lt_of_lt_of_eq (mul_lt_mul_of_pos_right hhi hu) habove.symm
  · rw [hbelow, show F.encodeUnits t (unitsBelow m q t) + 1 = F.encodeUnits t (unitsBelow m q t + 1) from rfl, habove,
      hF.encodeUnits_mod_two, ← hX, rd.goesUp_mul hu]
    exact hchoice.imp (And.imp_right fun hr => congrArg _ hr) (And.imp_right fun hr => congrArg _ hr)
  · rw [hexact, hbelow, Ne, div_eq_iff hu.ne']

end Round

/-! ## Tininess -/

/-- The smallest normal number and the one below it that an unbounded exponent would give, in units of the last place of that. -/
theorem FpFmt.belowNormal_eq (F : FpFmt) : ((F.belowNormal : ℚ) : ℝ) = ((2 : ℝ) ^ F.prec - 1) * 2 ^ (F.emin - F.prec) ∧
    ((F.smallestNormal : ℚ) : ℝ) = (2 : ℝ) ^ F.prec * 2 ^ (F.emin - F.prec) ∧ ((F.smallestNormal : ℚ) : ℝ) = 2 ^ F.emin := by
  have hsplit : (2 : ℝ) ^ F.emin = 2 ^ F.prec * 2 ^ (F.emin - F.prec) := by
    rw [← zpow_natCast, ← zpow_add₀ two_ne_zero, add_sub_cancel]
  refine ⟨?_, ?_, ?_⟩
  · rw [FpFmt.belowNormal, FpFmt.smallestNormal]
    push_cast
    rw [hsplit]
    ring
  · rw [FpFmt.smallestNormal]
    push_cast
    exact hsplit
  · rw [FpFmt.smallestNormal]
    push_cast
    rfl

/-- Tininess after rounding of a magnitude: it is below the smallest normal number and does not round up to it (R332, R334). -/
theorem FpFmt.tinyAfter_signOf (F : FpFmt) (rd : Rounding) (neg : Bool) {x : ℝ} (hx : 0 < x) :
    F.TinyAfter rd (signOf neg * x) ↔ x < F.smallestNormal ∧
      ¬ (F.belowNormal ≤ x ∧ rd.GoesUp neg true x F.belowNormal F.smallestNormal) := by
  obtain ⟨hbelow, hsmallest, -⟩ := F.belowNormal_eq
  have hu : (0 : ℝ) < 2 ^ (F.emin - F.prec) := by positivity
  have hone : (1 : ℝ) ≤ 2 ^ F.prec := one_le_pow₀ one_le_two
  have hlt : ((F.belowNormal : ℚ) : ℝ) < F.smallestNormal := by
    rw [hbelow, hsmallest]
    exact mul_lt_mul_of_pos_right (by linarith) hu
  have hnonneg : (0 : ℝ) ≤ F.belowNormal := by
    rw [hbelow]
    exact mul_nonneg (by linarith) hu.le
  have habs : |signOf neg * x| = x := by rw [abs_signOf_mul, abs_of_pos hx]
  cases rd with
  | nearestEven =>
    simp only [FpFmt.TinyAfter, Rounding.GoesUp, habs, and_true, ← le_iff_lt_or_eq']
    push_cast
    constructor
    · intro h
      exact ⟨by linarith, fun h' => by linarith [h'.2]⟩
    · rintro ⟨-, h⟩
      by_contra hge
      exact h ⟨by linarith, not_lt.mp hge⟩
  | towardZero => simp only [FpFmt.TinyAfter, Rounding.GoesUp, habs, and_false, not_false_eq_true, and_true]
  | up =>
    simp only [FpFmt.TinyAfter, Rounding.GoesUp]
    cases neg
    · simp only [signOf_false, one_mul, true_and]
      constructor
      · rintro ⟨-, h⟩
        exact ⟨by linarith, fun h' => by linarith [h'.2]⟩
      · rintro ⟨-, h⟩
        exact ⟨by linarith, not_lt.mp fun h' => h ⟨h'.le, h'⟩⟩
    · simp only [signOf_true, neg_one_mul, neg_lt_neg_iff, Bool.true_eq_false, false_and, and_false, not_false_eq_true, and_true,
        and_iff_left_iff_imp]
      intro
      linarith
  | down =>
    simp only [FpFmt.TinyAfter, Rounding.GoesUp]
    cases neg
    · simp only [signOf_false, one_mul, Bool.false_eq_true, false_and, and_false, not_false_eq_true, and_true,
        and_iff_right_iff_imp]
      intro
      linarith
    · simp only [signOf_true, neg_one_mul, neg_le_neg_iff, true_and]
      constructor
      · rintro ⟨h, -⟩
        exact ⟨by linarith, fun h' => by linarith [h'.2]⟩
      · rintro ⟨-, h⟩
        exact ⟨not_lt.mp fun h' => h ⟨h'.le, h'⟩, by linarith⟩

/-- The model's test for tininess after rounding: the leading bit is low enough, and the significand rounded to `prec` bits does
not carry out of them. -/
def FpFmt.tinyFlag (F : FpFmt) (rd : Rounding) (neg : Bool) (m : Nat) (q : Int) : Bool :=
  let e := q + (m.log2 : Int)
  decide (e < F.emin) &&
    (decide (e < F.emin - 1) || decide (rd.shiftRound neg m (e - ((F.prec : Int) - 1) - q).toNat < 2 ^ F.prec))

theorem Rounding.shiftRound_zero (rd : Rounding) (neg : Bool) (m : Nat) : rd.shiftRound neg m 0 = m := by
  have : rd.increments neg m 0 1 = false := by cases rd <;> simp [Rounding.increments]
  simp [Rounding.shiftRound, Nat.mod_one, this]

theorem shiftRound_lt_iff (rd : Rounding) (neg : Bool) {m P : Nat} {q t : Int} (hlt : unitsBelow m q t < P) :
    rd.shiftRound neg m (t - q).toNat < P ↔ unitsRounded rd neg m q t < P := by
  by_cases ht : t ≤ q
  · rw [unitsBelow, if_pos ht] at hlt
    rw [unitsRounded, if_pos ht, show (t - q).toNat = 0 by omega, rd.shiftRound_zero]
    exact iff_of_true (lt_of_le_of_lt (Nat.le_mul_of_pos_right m (Nat.two_pow_pos _)) hlt) hlt
  · rw [unitsRounded, if_neg ht]

section Round
variable {F : FpFmt} (hF : F.Roomy) {m : Nat} {x : ℝ} (h : StandsFor (F.prec + 2) m x) (hm : 0 < m) (q : Int)
include h hm

/-- The leading bit tells whether the number is below the smallest normal one. -/
theorem StandsFor.lt_emin_iff : q + (m.log2 : Int) < F.emin ↔ x * 2 ^ q < F.smallestNormal := by
  obtain ⟨hlead, htop⟩ := h.two_zpow_le (by omega) hm q
  rw [F.belowNormal_eq.2.2]
  constructor
  · intro he
    exact htop.trans_le (zpow_le_zpow_right₀ one_le_two (by omega))
  · intro hlt
    exact (zpow_lt_zpow_iff_right₀ one_lt_two).mp (lt_of_le_of_lt hlead hlt)

include hF

/-- The model's test decides tininess after rounding. -/
theorem StandsFor.tinyFlag_iff (rd : Rounding) (neg : Bool) :
    F.tinyFlag rd neg m q = true ↔ F.TinyAfter rd (signOf neg * (x * 2 ^ q)) := by
  obtain ⟨hbelow, hsmallest, -⟩ := F.belowNormal_eq
  have hpos : 0 < x * 2 ^ q := mul_pos (h.pos hm) (by positivity)
  have hu : (0 : ℝ) < 2 ^ (F.emin - F.prec) := by positivity
  rw [F.tinyAfter_signOf rd neg hpos, ← h.lt_emin_iff hm q]
  simp only [FpFmt.tinyFlag, Bool.and_eq_true, Bool.or_eq_true, decide_eq_true_eq]
  refine and_congr_right fun he => ?_
  rcases (show q + (m.log2 : Int) ≤ F.emin - 1 by omega).lt_or_eq with hlow | hedge
  · refine iff_of_true (.inl hlow) fun hup => hup.1.not_gt ?_
    refine (h.two_zpow_le (by omega) hm q).2.trans_le ((zpow_le_zpow_right₀ one_le_two (show _ ≤ F.emin - 1 by omega)).trans ?_)
    have hhalf := hF.two_pow_mul_zpow (F.emin - F.prec)
    rw [show F.emin - F.prec + ((F.prec : Int) - 1) = F.emin - 1 by ring] at hhalf
    rw [hbelow, ← hhalf]
    refine mul_le_mul_of_nonneg_right ?_ hu.le
    have hle : 2 ^ (F.prec - 1) + 1 ≤ 2 ^ F.prec := by
      have := Nat.two_pow_pos (F.prec - 1)
      rw [hF.two_pow_prec]
      omega
    have : ((2 ^ (F.prec - 1) + 1 : Nat) : ℝ) ≤ (2 ^ F.prec : Nat) := by exact_mod_cast hle
    push_cast at this ⊢
    linarith
  · have ht : q + (m.log2 : Int) - ((F.prec : Int) - 1) = F.emin - F.prec := by omega
    have hbits : 2 ^ (F.prec + 2) ≤ m → q + 2 ≤ F.emin - F.prec := fun hbig => by
      have := log2_of_big hm hbig
      omega
    have hlt := h.unitsBelow_lt hm q ht.le
    obtain ⟨hlo, hhi, -, hchoice⟩ := h.units hbits rd neg
    rw [or_iff_right (by omega : ¬ q + (m.log2 : Int) < F.emin - 1), ht, shiftRound_lt_iff rd neg hlt]
    have hX : x * 2 ^ q = x * 2 ^ q / 2 ^ (F.emin - F.prec) * 2 ^ (F.emin - F.prec) := (div_mul_cancel₀ _ hu.ne').symm
    rw [hX, hbelow, hsmallest, mul_le_mul_iff_left₀ hu, rd.goesUp_mul hu]
    generalize x * 2 ^ q / 2 ^ (F.emin - F.prec) = y at *
    generalize unitsBelow m q (F.emin - F.prec) = n at *
    rcases (show n + 1 ≤ 2 ^ F.prec from hlt).lt_or_eq with hn | hn
    · have hreal : ((n + 1 : Nat) : ℝ) + 1 ≤ 2 ^ F.prec := by exact_mod_cast hn
      push_cast at hreal
      refine iff_of_true ?_ fun hup => by linarith [hup.1]
      rcases hchoice with ⟨-, hr⟩ | ⟨-, hr⟩ <;> omega
    · have hreal : (n : ℝ) + 1 = 2 ^ F.prec := by exact_mod_cast hn
      have hodd : (n % 2 == 1) = true := by
        have := hF.two_pow_prec
        rw [beq_iff_eq]
        omega
      rw [hodd, hreal] at hchoice
      rw [← hreal, add_sub_cancel_right, and_iff_right hlo, hreal]
      rcases hchoice with ⟨hup, hr⟩ | ⟨hup, hr⟩
      · exact iff_of_false (by omega) (not_not.mpr hup)
      · exact iff_of_true (by omega) hup

end Round

/-! ## Correctness -/

/-- What the rounding operation computes, named (R331, R332). -/
theorem FpFmt.round_eq (F : FpFmt) (rd : Rounding) (neg : Bool) {m : Nat} (hm : 0 < m) (q : Int) :
    let t := F.quantum (q + (m.log2 : Int))
    let mag := F.encodeUnits t (unitsRounded rd neg m q t)
    let inexact := decide (q < t) && m % 2 ^ (t - q).toNat != 0
    let tinyBefore := decide (q + (m.log2 : Int) < F.emin)
    let underflow := inexact && (F.tinyFlag rd neg m q || (tinyBefore && !Config.tininessAfter))
    F.round rd neg m q = if F.infBits ≤ mag then F.overflow rd neg else
      .num (F.withSign neg mag) ((if inexact then flagI else flagsNone) ||| (if underflow then flagU else flagsNone))
        (tinyBefore && !inexact) := if_neg hm.ne'

/-- An overflow delivers its pattern with O and I (R332). -/
theorem FpFmt.overflow_eq (F : FpFmt) (rd : Rounding) (neg : Bool) :
    F.overflow rd neg = .num (F.overflowBits rd neg) (flagO ||| flagI) false := by
  cases rd <;> cases neg <;> rfl

/-- What rounds up from a higher lower neighbour rounds up from a lower one too. -/
theorem Rounding.goesUp_of_higher {rd : Rounding} {neg odd odd' : Bool} {x lo lo' hi : ℝ} (hlo : lo < lo')
    (hup : rd.GoesUp neg odd' x lo' hi) : rd.GoesUp neg odd x lo hi := by
  cases rd with
  | nearestEven => exact .inl (by rcases hup with hup | ⟨hup, -⟩ <;> linarith)
  | towardZero => exact hup
  | up => exact ⟨hup.1, hlo.trans hup.2⟩
  | down => exact ⟨hup.1, hlo.trans hup.2⟩

/-- The largest subnormal number lies below the number next to the smallest normal one. -/
theorem FpFmt.Roomy.magnitude_lt_belowNormal {F : FpFmt} (hF : F.Roomy) : F.magnitude (2 ^ (F.prec - 1) - 1) < F.belowNormal := by
  have hP := Nat.two_pow_pos (F.prec - 1)
  have hgrid := hF.magnitude_grid (k := 0) (n := 2 ^ (F.prec - 1) - 1) (by rw [hF.two_pow_prec]; omega) (.inl rfl)
  rw [Nat.zero_mul, Nat.zero_add, Nat.cast_zero, zero_add, Nat.cast_sub hP] at hgrid
  have hplace : (2 : ℝ) ^ F.qmin = 2 * 2 ^ (F.emin - F.prec) := by
    rw [← zpow_one_add₀ two_ne_zero]
    congr 1
    rw [FpFmt.qmin]
    ring
  have hprec : (2 : ℝ) ^ F.prec = 2 * (2 ^ (F.prec - 1) : Nat) := by exact_mod_cast hF.two_pow_prec
  have hu : (0 : ℝ) < 2 ^ (F.emin - F.prec) := by positivity
  rw [hgrid, hplace, F.belowNormal_eq.1, hprec]
  push_cast
  linarith

/-- The delivered number is below the smallest normal one only for a number that is tiny after rounding. -/
theorem FpFmt.RoundsTo.tinyAfter_of_delivered {F : FpFmt} (hF : F.Roomy) {rd : Rounding} {neg : Bool} {x : ℝ} {n mag : Nat}
    (hx : 0 < x) (h : F.RoundsTo rd neg x n mag) (hmag : F.magnitude mag < F.smallestNormal) :
    F.TinyAfter rd (signOf neg * x) := by
  have hmono := hF.magnitude_strictMono
  have hbelow := hF.magnitude_lt_belowNormal
  rw [F.tinyAfter_signOf rd neg hx, hF.smallestNormal_eq]
  rw [hF.smallestNormal_eq, hmono.lt_iff_lt] at hmag
  have hle := h.le_succ.1
  refine ⟨h.upper.trans_le (hmono.monotone (by omega)), fun ⟨hge, hup⟩ => ?_⟩
  rcases (show n + 1 ≤ 2 ^ (F.prec - 1) by omega).lt_or_eq with hn | hn
  · have := h.upper.trans_le (hmono.monotone (show n + 1 ≤ 2 ^ (F.prec - 1) - 1 by omega))
    linarith
  · have hdown := h.choice.resolve_left fun hc => by omega
    rw [hn] at hdown
    refine hdown.1 (Rounding.goesUp_of_higher ?_ hup)
    rwa [show n = 2 ^ (F.prec - 1) - 1 by omega]

/-- The exceptions of a number delivered without overflow, from what the tests of the rounding operation decide. -/
theorem FpFmt.RoundsTo.rightExceptions {F : FpFmt} (hF : F.Roomy) {rd : Rounding} {neg : Bool} {x : ℝ} {n mag : Nat}
    (hx : 0 < x) (h : F.RoundsTo rd neg x n mag) (hmag : mag < F.infBits) {inexact tinyBefore tinyAfter : Bool}
    (hinexact : inexact = true ↔ x ≠ F.magnitude n) (hbefore : tinyBefore = true ↔ x < F.smallestNormal)
    (hafter : tinyAfter = true ↔ F.TinyAfter rd (signOf neg * x)) :
    F.RightExceptions rd (signOf neg * x) (F.unpack (F.withSign neg mag)).rat
      ((if inexact then flagI else flagsNone) |||
        (if inexact && (tinyAfter || (tinyBefore && !Config.tininessAfter)) then flagU else flagsNone))
      (tinyBefore && !inexact) := by
  have hy := hF.rat_withSign neg hmag
  have habs : |signOf neg * x| = x := by rw [abs_signOf_mul, abs_of_pos hx]
  have hexact : signOf neg * x = ((F.unpack (F.withSign neg mag)).rat : ℚ) ↔ inexact = false := by
    rw [hy, h.exact_iff, ← Bool.not_eq_true, hinexact, not_not]
  have htiny : tinyAfter = true → tinyBefore = true := fun ht =>
    hbefore.mpr ((F.tinyAfter_signOf rd neg hx).mp (hafter.mp ht)).1
  have hdelivered : |(((F.unpack (F.withSign neg mag)).rat : ℚ) : ℝ)| < F.smallestNormal → tinyAfter = true := by
    intro hlt
    rw [hy, abs_signOf_mul, abs_of_nonneg (hF.magnitude_nonneg mag)] at hlt
    exact hafter.mpr (h.tinyAfter_of_delivered hF hx hlt)
  generalize (F.unpack (F.withSign neg mag)).rat = y at *
  cases inexact with
  | false =>
    have hxy := hexact.mpr rfl
    refine ⟨fun _ => by simp [flagsNone], ?_, fun hne => absurd hxy hne, fun hne => absurd hxy hne, fun hne => absurd hxy hne,
      fun hne => absurd hxy hne⟩
    rw [habs, ← hbefore]
    simp [hxy]
  | true =>
    have hxy : signOf neg * x ≠ y := fun heq => Bool.noConfusion (hexact.mp heq)
    refine ⟨fun heq => absurd heq hxy, by simp [hxy], fun _ => ?_, fun _ hlt => ?_, fun _ hlt hconf => ?_, fun _ hconf => ?_⟩
    · cases hu : tinyAfter || (tinyBefore && !Config.tininessAfter)
      · exact .inl (by simp [flagsNone])
      · refine .inr ⟨by simp, ?_⟩
        rw [habs, ← hbefore]
        rcases (Bool.or_eq_true _ _).mp hu with ht | hb
        · exact htiny ht
        · exact ((Bool.and_eq_true _ _).mp hb).1
    · have : |((y : ℚ) : ℝ)| < F.smallestNormal := by exact_mod_cast hlt
      simp [hdelivered this]
    · rw [habs, ← hbefore] at hlt
      simp [hlt, hconf]
    · rw [← hafter]
      have hne : flagI ≠ flagI ||| flagU := by decide
      cases tinyAfter <;> simp [hconf, hne, flagsNone]

/-- A natural that stands for the exact number is rounded correctly (R331, R332). -/
theorem StandsFor.correct_round {F : FpFmt} (hF : F.Roomy) {m : Nat} {x : ℝ} (h : StandsFor (F.prec + 2) m x) (hm : 0 < m)
    (q : Int) (rd : Rounding) (neg : Bool) : F.Correct rd (signOf neg * (x * 2 ^ q)) (F.round rd neg m q) := by
  obtain ⟨hround, hexact⟩ := h.roundsTo hF hm q rd neg
  have hpos : 0 < x * 2 ^ q := mul_pos (h.pos hm) (by positivity)
  have hsign : ∀ neg' : Bool, (neg' = true ↔ signOf neg * (x * 2 ^ q) < 0) ↔ neg' = neg := by
    intro neg'
    cases neg <;> cases neg' <;> simp [hpos, hpos.le]
  rw [F.round_eq rd neg hm q]
  split
  · next hover =>
    refine ⟨_, _, _, F.overflow_eq rd neg, fun _ => ⟨rfl, rfl, fun neg' hneg' => ?_⟩, fun hnot => ?_⟩
    · rw [(hsign neg').mp hneg']
    · exact absurd ((hround.overflows_iff hF hpos).mpr hover) hnot
  · next hover =>
    have hmag := not_le.mp hover
    refine ⟨_, _, _, rfl, fun hyes => absurd ((hround.overflows_iff hF hpos).mp hyes) hover, fun _ =>
      ⟨hF.finiteBits_withSign neg hmag, hround.nearest hF hpos hmag, ?_, ?_⟩⟩
    · rw [FpFmt.withSign_div_signBit neg (hmag.trans hF.infBits_lt_signBit), ← (hsign neg).mpr rfl]
      cases neg <;> decide
    · refine hround.rightExceptions hF hpos hmag ?_ ?_ (h.tinyFlag_iff hF hm q rd neg)
      · rw [← hexact, Bool.and_eq_true, decide_eq_true_eq, bne_iff_ne]
      · rw [decide_eq_true_eq, h.lt_emin_iff hm q]

/-- Settles O48: a natural stands for itself. -/
theorem roundingIsCorrect : Obligations.RoundingIsCorrect := by
  intro F rd neg m q hF hm
  rw [FpVal.rat_fin]
  exact StandsFor.correct_round (FpFmt.roomy_of_format hF) (.inl rfl) hm q rd neg

end Sys2Proof.Machine

namespace Sys2Proof.Machine

/-! ### Sums, products and quotients -/

theorem FpVal.rat_eq_zero_iff (neg : Bool) (m : Nat) (q : Int) : (FpVal.fin neg m q).rat = 0 ↔ m = 0 := by
  cases neg <;> simp [FpVal.rat, zpow_ne_zero]

/-- An exact number, not zero, is rounded correctly. -/
theorem FpFmt.Roomy.correct_round {F : FpFmt} (hF : F.Roomy) {m : Nat} (hm : 0 < m) (q : Int) (rd : Rounding) (neg : Bool) :
    F.Correct rd (signOf neg * (m * 2 ^ q)) (F.round rd neg m q) := StandsFor.correct_round hF (.inl rfl) hm q rd neg

/-- A finite number as an integer number of units of a place at or below its own. -/
theorem rat_eq_units (neg : Bool) (m : Nat) {q t : Int} (h : t ≤ q) : (FpVal.fin neg m q).rat =
    (((if neg then -1 else 1) * ((m * 2 ^ (q - t).toNat : Nat) : Int) : Int) : ℚ) * 2 ^ t := by
  have hpow : (2 : ℚ) ^ q = 2 ^ (q - t).toNat * 2 ^ t := by
    rw [← zpow_natCast, Int.toNat_of_nonneg (by omega), ← zpow_add₀ two_ne_zero, sub_add_cancel]
  rw [FpVal.rat, hpow]
  cases neg <;> push_cast <;> simp <;> ring

/-- The exact sum of two finite numbers, in units of the lower of their places. -/
def sumUnits (s1 : Bool) (m1 : Nat) (q1 : Int) (s2 : Bool) (m2 : Nat) (q2 : Int) : Int :=
  (if s1 then -1 else 1) * ((m1 * 2 ^ (q1 - min q1 q2).toNat : Nat) : Int) +
    (if s2 then -1 else 1) * ((m2 * 2 ^ (q2 - min q1 q2).toNat : Nat) : Int)

theorem rat_add_rat (s1 s2 : Bool) (m1 m2 : Nat) (q1 q2 : Int) :
    (FpVal.fin s1 m1 q1).rat + (FpVal.fin s2 m2 q2).rat = (sumUnits s1 m1 q1 s2 m2 q2 : ℚ) * 2 ^ min q1 q2 := by
  rw [rat_eq_units s1 m1 (min_le_left q1 q2), rat_eq_units s2 m2 (min_le_right q1 q2), ← add_mul, sumUnits]
  push_cast
  rfl

/-- An integer is its absolute value with its sign. -/
theorem cast_eq_signOf_mul_natAbs (i : Int) : (i : ℝ) = signOf (decide (i < 0)) * (i.natAbs : ℕ) := by
  rw [Nat.cast_natAbs, Int.cast_abs]
  by_cases hneg : i < 0
  · have : (i : ℝ) < 0 := by exact_mod_cast hneg
    simp [hneg, abs_of_neg this]
  · have : (0 : ℝ) ≤ i := by exact_mod_cast not_lt.mp hneg
    simp [hneg, abs_of_nonneg this]

theorem FpFmt.sum_eq (F : FpFmt) (rd : Rounding) (s1 s2 : Bool) (m1 m2 : Nat) (q1 q2 : Int) :
    let i := sumUnits s1 m1 q1 s2 m2 q2
    F.sum rd s1 m1 q1 s2 m2 q2 = if i = 0 then .exact (F.withSign (if s1 = s2 then s1 else decide (rd = .down)) 0)
      else F.round rd (decide (i < 0)) i.natAbs (min q1 q2) := rfl

/-- The sum of two finite numbers: rounded once when it is not zero, else a zero by the rule of signs (R340). -/
theorem FpFmt.Roomy.sum_spec {F : FpFmt} (hF : F.Roomy) (rd : Rounding) (s1 s2 : Bool) (m1 m2 : Nat) (q1 q2 : Int) :
    let z := (FpVal.fin s1 m1 q1).rat + (FpVal.fin s2 m2 q2).rat
    (z ≠ 0 → F.Correct rd (z : ℝ) (F.sum rd s1 m1 q1 s2 m2 q2)) ∧
    (z = 0 → F.sum rd s1 m1 q1 s2 m2 q2 =
      .num (F.withSign (if s1 = s2 then s1 else decide (rd = .down)) 0) flagsNone false) := by
  intro z
  have hz : z = (sumUnits s1 m1 q1 s2 m2 q2 : ℚ) * 2 ^ min q1 q2 := rat_add_rat s1 s2 m1 m2 q1 q2
  have hzero : z = 0 ↔ sumUnits s1 m1 q1 s2 m2 q2 = 0 := by
    rw [hz, mul_eq_zero, or_iff_left (by positivity), Int.cast_eq_zero]
  constructor
  · intro hne
    have hi := mt hzero.mpr hne
    rw [F.sum_eq, if_neg hi, hz]
    push_cast
    rw [cast_eq_signOf_mul_natAbs, mul_assoc]
    exact hF.correct_round (Int.natAbs_pos.mpr hi) _ rd _
  · intro heq
    rw [F.sum_eq, if_pos (hzero.mp heq)]
    rfl

@[simp] theorem FpVal.rat_neg_fin (neg : Bool) (m : Nat) (q : Int) : (FpVal.fin (!neg) m q).rat = -(FpVal.fin neg m q).rat := by
  cases neg <;> simp [FpVal.rat]

theorem FpVal.rat_mul_fin (s1 s2 : Bool) (m1 m2 : Nat) (q1 q2 : Int) :
    (FpVal.fin s1 m1 q1).rat * (FpVal.fin s2 m2 q2).rat = (FpVal.fin (s1 != s2) (m1 * m2) (q1 + q2)).rat := by
  simp only [FpVal.rat, zpow_add₀ (two_ne_zero' ℚ)]
  cases s1 <;> cases s2 <;> simp <;> ring

theorem FpVal.rat_div_fin (s1 s2 : Bool) (m1 m2 : Nat) (q1 q2 : Int) :
    (((FpVal.fin s1 m1 q1).rat / (FpVal.fin s2 m2 q2).rat : ℚ) : ℝ) = signOf (s1 != s2) * ((m1 : ℝ) / m2 * 2 ^ (q1 - q2)) := by
  have hpow : (2 : ℝ) ^ (q1 - q2) = 2 ^ q1 / 2 ^ q2 := zpow_sub₀ two_ne_zero _ _
  push_cast
  rw [FpVal.rat_fin, FpVal.rat_fin, hpow]
  cases s1 <;> cases s2 <;> simp [div_eq_mul_inv] <;> ring

theorem StandsFor.nat_pos {bits m : Nat} {x : ℝ} (h : StandsFor bits m x) (hx : 0 < x) : 0 < m := by
  rcases h with rfl | h
  · exact_mod_cast hx
  · omega

/-- Twice a floor with a last bit for the rest stands for twice the number. -/
theorem standsFor_sticky {bits n : Nat} {y : ℝ} (hlo : (n : ℝ) ≤ y) (hhi : y < n + 1) (hbig : 2 ^ bits ≤ 2 * n) {p : Prop} [Decidable p]
    (hp : p ↔ y = n) : StandsFor bits (2 * n + if p then 0 else 1) (2 * y) := by
  by_cases h : p
  · left
    rw [if_pos h, hp.mp h]
    push_cast
    ring
  · have hlt : (n : ℝ) < y := lt_of_le_of_ne hlo (Ne.symm (mt hp.mpr h))
    rw [if_neg h]
    refine .inr ⟨by omega, by omega, ?_, ?_⟩ <;> push_cast <;> linarith

/-- The quotient with its last bit stands for the exact one (R346). -/
theorem FpFmt.quotient_standsFor (F : FpFmt) {m1 m2 : Nat} (h1 : 0 < m1) (h2 : 0 < m2) :
    StandsFor (F.prec + 2) (F.quotient m1 m2).1 (2 * ((m1 : ℝ) / m2 * 2 ^ (F.quotient m1 m2).2)) := by
  have hm2 : (0 : ℝ) < m2 := by exact_mod_cast h2
  let n := m1 * 2 ^ (F.prec + 3 + m2.log2)
  have hy : (m1 : ℝ) / m2 * 2 ^ (F.prec + 3 + m2.log2) = (n : ℝ) / m2 := by
    simp only [n]
    push_cast
    ring
  have hdm : ((m2 : ℝ) * (n / m2 : Nat) + (n % m2 : Nat)) = n := by exact_mod_cast Nat.div_add_mod n m2
  have hrem : ((n % m2 : Nat) : ℝ) < m2 := by exact_mod_cast Nat.mod_lt n h2
  have hrem0 : (0 : ℝ) ≤ ((n % m2 : Nat) : ℝ) := Nat.cast_nonneg _
  show StandsFor _ (2 * (n / m2) + if n % m2 = 0 then 0 else 1) (2 * ((m1 : ℝ) / m2 * 2 ^ (F.prec + 3 + m2.log2)))
  rw [hy]
  refine standsFor_sticky ?_ ?_ ?_ ?_
  · rw [le_div_iff₀ hm2]
    linarith
  · rw [div_lt_iff₀ hm2]
    linarith
  · have hle : 2 ^ (F.prec + 1) ≤ n / m2 := by
      rw [Nat.le_div_iff_mul_le h2]
      calc 2 ^ (F.prec + 1) * m2 ≤ 2 ^ (F.prec + 1) * 2 ^ (m2.log2 + 1) := Nat.mul_le_mul_left _ Nat.lt_log2_self.le
        _ ≤ 2 ^ (F.prec + 3 + m2.log2) := by
          rw [← Nat.pow_add]
          exact Nat.pow_le_pow_right two_pos (by omega)
        _ ≤ n := Nat.le_mul_of_pos_left _ h1
    rw [show F.prec + 2 = F.prec + 1 + 1 from rfl, Nat.pow_succ']
    exact Nat.mul_le_mul_left 2 hle
  · rw [div_eq_iff hm2.ne']
    constructor
    · intro h
      rw [h] at hdm
      push_cast at hdm
      linarith
    · intro h
      have : ((n % m2 : Nat) : ℝ) = 0 := by linarith
      exact_mod_cast this

/-- The quotient of finite numbers is rounded once (R346). -/
theorem FpFmt.Roomy.correct_div {F : FpFmt} (hF : F.Roomy) (rd : Rounding) (s1 s2 : Bool) {m1 m2 : Nat} (q1 q2 : Int) (h1 : 0 < m1)
    (h2 : 0 < m2) : F.Correct rd (((FpVal.fin s1 m1 q1).rat / (FpVal.fin s2 m2 q2).rat : ℚ) : ℝ)
      (F.div rd (.fin s1 m1 q1) (.fin s2 m2 q2)) := by
  have hstands := F.quotient_standsFor h1 h2
  have hm1 : (0 : ℝ) < m1 := by exact_mod_cast h1
  have hm2 : (0 : ℝ) < m2 := by exact_mod_cast h2
  have hpos : 0 < (F.quotient m1 m2).1 := hstands.nat_pos (by positivity)
  have hvalue : (m1 : ℝ) / m2 * 2 ^ (q1 - q2) =
      2 * ((m1 : ℝ) / m2 * 2 ^ (F.quotient m1 m2).2) * 2 ^ (q1 - q2 - ((F.quotient m1 m2).2 : Int) - 1) := by
    rw [zpow_sub₀ two_ne_zero (q1 - q2 - ((F.quotient m1 m2).2 : Int)), zpow_sub₀ two_ne_zero (q1 - q2), zpow_natCast, zpow_one]
    field_simp
  have hdiv : F.div rd (.fin s1 m1 q1) (.fin s2 m2 q2) =
      F.round rd (s1 != s2) (F.quotient m1 m2).1 (q1 - q2 - ((F.quotient m1 m2).2 : Int) - 1) := if_neg h2.ne'
  rw [FpVal.rat_div_fin, hvalue, hdiv]
  exact hstands.correct_round hF hpos _ rd _

theorem FpFmt.div_zero_fin (F : FpFmt) (rd : Rounding) (s1 s2 : Bool) {m2 : Nat} (q1 q2 : Int) (h2 : m2 ≠ 0) :
    F.div rd (.fin s1 0 q1) (.fin s2 m2 q2) = .num (F.withSign (s1 != s2) 0) flagsNone false := by
  have hquotient : (F.quotient 0 m2).1 = 0 := by simp [FpFmt.quotient]
  refine (if_neg h2).trans ?_
  rw [hquotient]
  rfl

/-- The fused operation on finite numbers is the sum of the exact product and the addend (R348). -/
theorem FpFmt.fma_fin (F : FpFmt) (rd : Rounding) (s1 s2 s3 : Bool) (m1 m2 m3 : Nat) (q1 q2 q3 : Int) :
    F.fma rd (.fin s1 m1 q1) (.fin s2 m2 q2) (.fin s3 m3 q3) = F.sum rd (s1 != s2) (m1 * m2) (q1 + q2) s3 m3 q3 := by
  simp [FpFmt.fma, FpVal.isSnan, FpVal.isNan, FpVal.isInf]

/-- Settles O49: sums go through `sum_spec`, a product is the exact one rounded, a quotient stands for the exact one. -/
theorem sumProductQuotientAreCorrect : Obligations.SumProductQuotientAreCorrect := by
  intro F rd s1 s2 s3 m1 m2 m3 q1 q2 q3 hformat x y z zero zeroSum
  have hF := FpFmt.roomy_of_format hformat
  refine ⟨(hF.sum_spec rd s1 s2 m1 m2 q1 q2).1, (hF.sum_spec rd s1 s2 m1 m2 q1 q2).2, ?sub, ?subZero, ?mul, ?mulZero, ?div,
    ?divZero, ?fma, ?fmaZero⟩
  case sub =>
    have := (hF.sum_spec rd s1 (!s2) m1 m2 q1 q2).1
    rwa [FpVal.rat_neg_fin, ← sub_eq_add_neg] at this
  case subZero =>
    have := (hF.sum_spec rd s1 (!s2) m1 m2 q1 q2).2
    rwa [FpVal.rat_neg_fin, ← sub_eq_add_neg] at this
  case mul =>
    intro hne
    rw [FpVal.rat_mul_fin] at hne ⊢
    rw [FpVal.rat_fin]
    exact hF.correct_round (Nat.pos_of_ne_zero (mt (FpVal.rat_eq_zero_iff _ _ _).mpr hne)) _ rd _
  case mulZero =>
    intro heq
    rw [FpVal.rat_mul_fin, FpVal.rat_eq_zero_iff] at heq
    show F.round rd (s1 != s2) (m1 * m2) (q1 + q2) = _
    rw [heq]
    rfl
  case div =>
    intro hx hy
    exact hF.correct_div rd s1 s2 q1 q2 (Nat.pos_of_ne_zero (mt (FpVal.rat_eq_zero_iff _ _ _).mpr hx))
      (Nat.pos_of_ne_zero (mt (FpVal.rat_eq_zero_iff _ _ _).mpr hy))
  case divZero =>
    intro hx hy
    obtain rfl : m1 = 0 := (FpVal.rat_eq_zero_iff _ _ _).mp hx
    exact F.div_zero_fin rd s1 s2 q1 q2 (mt (FpVal.rat_eq_zero_iff _ _ _).mpr hy)
  case fma =>
    rw [F.fma_fin, FpVal.rat_mul_fin]
    exact (hF.sum_spec rd (s1 != s2) s3 (m1 * m2) m3 (q1 + q2) q3).1
  case fmaZero =>
    rw [F.fma_fin, FpVal.rat_mul_fin]
    exact (hF.sum_spec rd (s1 != s2) s3 (m1 * m2) m3 (q1 + q2) q3).2

end Sys2Proof.Machine

namespace Sys2Proof.Machine

/-! ### Roots -/

/-- `r` is the integer square root of `n`. -/
def IsRoot (n r : Nat) : Prop := r * r ≤ n ∧ n < (r + 1) * (r + 1)

/-- Bit after bit the root is bracketed in half as wide an interval. -/
theorem isqrtBits_isRoot {n : Nat} (i r : Nat) (hlo : r * r ≤ n) (hhi : n < (r + 2 ^ i) * (r + 2 ^ i)) : IsRoot n (isqrtBits n i r) := by
  induction i generalizing r with
  | zero => exact ⟨hlo, hhi⟩
  | succ i ih =>
    have htwo : 2 ^ (i + 1) = 2 ^ i + 2 ^ i := by rw [Nat.pow_succ]; omega
    rw [isqrtBits]
    split
    · next hle =>
      refine ih _ hle ?_
      rwa [Nat.add_assoc, ← htwo]
    · next hgt => exact ih r hlo (not_le.mp hgt)

theorem isqrt_isRoot (n : Nat) : IsRoot n (isqrt n) := by
  refine isqrtBits_isRoot _ 0 (Nat.zero_le n) ?_
  rw [Nat.zero_add, ← Nat.pow_add]
  exact Nat.lt_log2_self.trans_le (Nat.pow_le_pow_right two_pos (by omega))

/-- With enough bits the root is at least a power of 2. -/
theorem IsRoot.two_pow_le {n r k : Nat} (h : IsRoot n r) (hk : 2 ^ k * 2 ^ k ≤ n) : 2 ^ k ≤ r := by
  by_contra hlt
  have hle : r + 1 ≤ 2 ^ k := by omega
  exact absurd (h.2.trans_le (Nat.mul_le_mul hle hle)) (by omega)

/-- An integer square root of the integer part of a square brackets what is squared. -/
theorem IsRoot.bracket {n r : Nat} {y : ℝ} (h : IsRoot n r) (hy : 0 ≤ y) (hlo : (n : ℝ) ≤ y * y) (hhi : y * y < n + 1) :
    (r : ℝ) ≤ y ∧ y < r + 1 := by
  have h1 : ((r * r : Nat) : ℝ) ≤ n := by exact_mod_cast h.1
  have h2 : ((n + 1 : Nat) : ℝ) ≤ ((r + 1) * (r + 1) : Nat) := by exact_mod_cast h.2
  push_cast at h1 h2
  have hr : (0 : ℝ) ≤ r := Nat.cast_nonneg r
  constructor
  · exact abs_le_of_sq_le_sq' (by nlinarith) hy |>.2
  · exact lt_of_pow_lt_pow_left₀ 2 (by linarith) (by nlinarith)

theorem mul_self_eq_iff {r : Nat} {y : ℝ} (hy : 0 ≤ y) : y * y = r * r ↔ y = r := mul_self_inj hy (Nat.cast_nonneg r)

/-- The root with its last bit stands for the real square root (R368). -/
theorem sqrt_standsFor {bits n : Nat} (hn : 2 ^ (bits + 1) * 2 ^ (bits + 1) ≤ n) :
    StandsFor (bits + 2) (2 * isqrt n + if isqrt n * isqrt n = n then 0 else 1) (2 * √(n : ℝ)) := by
  have hroot := isqrt_isRoot n
  have hsq : √(n : ℝ) * √n = n := Real.mul_self_sqrt (Nat.cast_nonneg n)
  obtain ⟨hlo, hhi⟩ := hroot.bracket (Real.sqrt_nonneg _) hsq.ge (by rw [hsq]; linarith)
  refine standsFor_sticky hlo hhi ?_ ?_
  · rw [Nat.pow_succ']
    exact Nat.mul_le_mul_left 2 (hroot.two_pow_le hn)
  · rw [← mul_self_eq_iff (Real.sqrt_nonneg _), hsq, eq_comm]
    norm_cast

theorem sqrt_mul_zpow_two_mul {a : ℝ} (j : Int) : √(a * 2 ^ (2 * j)) = √a * 2 ^ j := by
  rw [mul_comm 2 j, zpow_mul, Real.sqrt_mul' _ (by positivity)]
  congr 1
  exact Real.sqrt_sq (by positivity)

/-- By how many bits the square root operation scales its operand: the exponent becomes even. -/
def FpFmt.sqrtScale (F : FpFmt) (q : Int) : Nat := 2 * F.prec + 4 + (q % 2).toNat

theorem FpFmt.sqrt_eq (F : FpFmt) (rd : Rounding) {m : Nat} (q : Int) (hm : 0 < m) :
    let n := m * 2 ^ F.sqrtScale q
    F.sqrt rd (.fin false m q) = F.round rd false (2 * isqrt n + if isqrt n * isqrt n = n then 0 else 1)
      ((q - (F.sqrtScale q : Int)) / 2 - 1) := if_neg hm.ne'

/-- The square root of a positive number is rounded once (R368). -/
theorem FpFmt.Roomy.correct_sqrt {F : FpFmt} (hF : F.Roomy) (rd : Rounding) {m : Nat} (q : Int) (hm : 0 < m) :
    F.Correct rd √((FpVal.fin false m q).rat : ℝ) (F.sqrt rd (.fin false m q)) := by
  have hbig : 2 ^ (F.prec + 1) * 2 ^ (F.prec + 1) ≤ m * 2 ^ F.sqrtScale q := by
    rw [← Nat.pow_add]
    exact (Nat.pow_le_pow_right two_pos (by rw [FpFmt.sqrtScale]; omega)).trans (Nat.le_mul_of_pos_left _ hm)
  have heven : q - (F.sqrtScale q : Int) = 2 * ((q - (F.sqrtScale q : Int)) / 2) := by
    rw [FpFmt.sqrtScale]
    omega
  have hvalue : ((FpVal.fin false m q).rat : ℝ) =
      ((m * 2 ^ F.sqrtScale q : Nat) : ℝ) * 2 ^ (2 * ((q - (F.sqrtScale q : Int)) / 2)) := by
    rw [← heven, FpVal.rat_fin, signOf_false, one_mul, zpow_sub₀ two_ne_zero, zpow_natCast]
    push_cast
    field_simp
  have hn : (0 : ℝ) < (m * 2 ^ F.sqrtScale q : Nat) := by exact_mod_cast Nat.mul_pos hm (Nat.two_pow_pos _)
  rw [F.sqrt_eq rd q hm, hvalue, sqrt_mul_zpow_two_mul]
  generalize m * 2 ^ F.sqrtScale q = n at *
  have hstands := sqrt_standsFor hbig
  have hcorrect := hstands.correct_round hF (hstands.nat_pos (by positivity)) ((q - (F.sqrtScale q : Int)) / 2 - 1) rd false
  rw [signOf_false, one_mul, zpow_sub_one₀ two_ne_zero] at hcorrect
  convert hcorrect using 1
  ring

/-- The significand and the exponent of a number, the exponent made even. -/
def evenSignificand (m : Nat) (q : Int) : Nat := if q % 2 = 0 then m else 2 * m
def evenExponent (q : Int) : Int := if q % 2 = 0 then q else q - 1

theorem evenSignificand_mul (m : Nat) (q : Int) : (evenSignificand m q : ℝ) * 2 ^ (2 * (evenExponent q / 2)) = m * 2 ^ q := by
  unfold evenSignificand evenExponent
  split
  · next h => rw [show 2 * (q / 2) = q by omega]
  · next h =>
    rw [show 2 * ((q - 1) / 2) = q - 1 by omega, zpow_sub_one₀ two_ne_zero]
    push_cast
    ring

theorem evenSignificand_pos {m : Nat} (hm : 0 < m) (q : Int) : 0 < evenSignificand m q := by
  unfold evenSignificand
  split <;> omega

/-- By how many bits the reciprocal root operation scales its quotient. -/
def FpFmt.rsqrtScale (F : FpFmt) (m : Nat) : Nat := F.prec + 5 + m.log2 / 2

theorem FpFmt.rsqrtOnce_eq (F : FpFmt) (rd : Rounding) {m : Nat} (q : Int) (hm : 0 < m) :
    let m' := evenSignificand m q
    let k := F.rsqrtScale m'
    let r := isqrt (2 ^ (2 * k) / m')
    F.rsqrtOnce rd (.fin false m q) = F.round rd false (2 * r + if r * r * m' = 2 ^ (2 * k) then 0 else 1)
      (-(evenExponent q / 2) - (k : Int) - 1) := if_neg hm.ne'

/-- The reciprocal root with its last bit stands for the real one (R372). -/
theorem FpFmt.rsqrt_standsFor (F : FpFmt) {m : Nat} (hm : 0 < m) :
    let k := F.rsqrtScale m
    let r := isqrt (2 ^ (2 * k) / m)
    StandsFor (F.prec + 2) (2 * r + if r * r * m = 2 ^ (2 * k) then 0 else 1) (2 * (2 ^ k / √(m : ℝ))) := by
  intro k r
  have hm' : (0 : ℝ) < m := by exact_mod_cast hm
  have hy : 0 ≤ (2 : ℝ) ^ k / √(m : ℝ) := by positivity
  have hsq : (2 : ℝ) ^ k / √(m : ℝ) * (2 ^ k / √(m : ℝ)) = 2 ^ (2 * k) / m := by
    rw [div_mul_div_comm, Real.mul_self_sqrt hm'.le, ← pow_add, two_mul]
  have hdm : ((m : ℝ) * (2 ^ (2 * k) / m : Nat) + (2 ^ (2 * k) % m : Nat)) = 2 ^ (2 * k) := by
    exact_mod_cast Nat.div_add_mod (2 ^ (2 * k)) m
  have hrem : ((2 ^ (2 * k) % m : Nat) : ℝ) < m := by exact_mod_cast Nat.mod_lt _ hm
  have hrem0 : (0 : ℝ) ≤ ((2 ^ (2 * k) % m : Nat) : ℝ) := Nat.cast_nonneg _
  obtain ⟨hlo, hhi⟩ := (isqrt_isRoot (2 ^ (2 * k) / m)).bracket hy
    (by rw [hsq, le_div_iff₀ hm']; linarith) (by rw [hsq, div_lt_iff₀ hm']; linarith)
  refine standsFor_sticky hlo hhi ?_ ?_
  · have hle : 2 ^ (F.prec + 1) * 2 ^ (F.prec + 1) ≤ 2 ^ (2 * k) / m := by
      rw [Nat.le_div_iff_mul_le hm, ← Nat.pow_add]
      calc 2 ^ (F.prec + 1 + (F.prec + 1)) * m
          ≤ 2 ^ (F.prec + 1 + (F.prec + 1)) * 2 ^ (m.log2 + 1) := Nat.mul_le_mul_left _ Nat.lt_log2_self.le
        _ ≤ 2 ^ (2 * k) := by
          rw [← Nat.pow_add]
          exact Nat.pow_le_pow_right two_pos (by simp only [k, FpFmt.rsqrtScale]; omega)
    rw [Nat.pow_succ']
    exact Nat.mul_le_mul_left 2 ((isqrt_isRoot _).two_pow_le hle)
  · rw [← mul_self_eq_iff hy, hsq, div_eq_iff hm'.ne', eq_comm]
    norm_cast

/-- The reciprocal square root of a positive number is rounded once (R372). -/
theorem FpFmt.Roomy.correct_rsqrtOnce {F : FpFmt} (hF : F.Roomy) (rd : Rounding) {m : Nat} (q : Int) (hm : 0 < m) :
    F.Correct rd (1 / √((FpVal.fin false m q).rat : ℝ)) (F.rsqrtOnce rd (.fin false m q)) := by
  have hm' := evenSignificand_pos hm q
  have hpos : (0 : ℝ) < evenSignificand m q := by exact_mod_cast hm'
  have hstands := F.rsqrt_standsFor hm'
  rw [F.rsqrtOnce_eq rd q hm, FpVal.rat_fin, signOf_false, one_mul, ← evenSignificand_mul, sqrt_mul_zpow_two_mul]
  generalize evenSignificand m q = m' at *
  have hcorrect := hstands.correct_round hF (hstands.nat_pos (by positivity))
    (-(evenExponent q / 2) - (F.rsqrtScale m' : Int) - 1) rd false
  rw [signOf_false, one_mul, zpow_sub_one₀ two_ne_zero, zpow_sub₀ two_ne_zero, zpow_neg, zpow_natCast] at hcorrect
  convert hcorrect using 1
  field_simp

/-- Where the two readings of FRSQRT agree they are FRSQRT, else FP.rsqrtDouble decides (R372). -/
theorem FpFmt.rsqrt_eq (F : FpFmt) (rd : Rounding) (a : FpVal) :
    F.rsqrt rd a = if Config.rsqrtDouble then F.rsqrtTwice rd a else F.rsqrtOnce rd a := by
  unfold FpFmt.rsqrt
  split
  · next h => rw [← h, ite_self]
  · rfl

theorem FpFmt.Correct.exists_num {F : FpFmt} {rd : Rounding} {x : ℝ} {r : FpOut} (h : F.Correct rd x r) :
    ∃ b e te, r = .num b e te := by
  obtain ⟨b, e, te, hr, -⟩ := h
  exact ⟨b, e, te, hr⟩

/-- Settles O50: both operations round a natural that stands for the real root. -/
theorem rootsAreCorrect : Obligations.RootsAreCorrect := by
  intro F rd m q hformat hm x
  have hF := FpFmt.roomy_of_format hformat
  refine ⟨hF.correct_sqrt rd q hm, hF.correct_rsqrtOnce rd q hm, fun hconf => ?_, fun hconf => ?_⟩
  · rw [F.rsqrt_eq, hconf]
    rfl
  · obtain ⟨b, e, te, hsqrt⟩ := (hF.correct_sqrt rd q hm).exists_num
    refine ⟨b, e, te, hsqrt, ?_⟩
    rw [F.rsqrt_eq, if_pos hconf, FpFmt.rsqrtTwice, hsqrt]
    rfl

end Sys2Proof.Machine

namespace Sys2Proof.Machine

/-! ### Special operands -/

/-- The datum of the zero of a sign. -/
theorem FpFmt.Roomy.unpack_zero {F : FpFmt} (hF : F.Roomy) (s : Bool) : ∃ q, F.unpack (F.withSign s 0) = .fin s 0 q := by
  obtain ⟨m, q, hunpack, hvalue⟩ := hF.unpack_withSign s (show 0 < F.infBits by have := hF.two_le_infBits; omega)
  rw [F.magnitude_zero, mul_eq_zero, or_iff_left (by positivity), Nat.cast_eq_zero] at hvalue
  exact ⟨q, hvalue ▸ hunpack⟩

/-- The datum of the infinity's pattern. -/
theorem FpFmt.Roomy.unpack_infBits {F : FpFmt} (hF : F.Roomy) : F.unpack F.infBits = .inf false := by
  have hP : 0 < 2 ^ (F.prec - 1) := Nat.two_pow_pos _
  have h4 := hF.four_le_two_pow_ebits
  have hex : F.infBits / 2 ^ (F.prec - 1) % 2 ^ F.ebits = 2 ^ F.ebits - 1 := by
    rw [FpFmt.infBits, Nat.mul_div_cancel _ hP, Nat.mod_eq_of_lt (by omega)]
  have hfrac : F.infBits % 2 ^ (F.prec - 1) = 0 := Nat.mul_mod_left _ _
  unfold FpFmt.unpack
  simp [hex, hfrac, Nat.div_eq_of_lt hF.infBits_lt_signBit]

section Special
variable (F : FpFmt) (rd : Rounding)

/-- An operation gives the NaN of its operands when one is a NaN, with V when one is signaling (R333). -/
theorem FpFmt.nan_operands (s : Bool) (b : FpVal) : ∀ op ∈ [F.add rd, F.sub rd, F.mul rd, F.div rd],
    op (.nan s) b = .ofNaNs (s || b.isSnan) ∧ op b (.nan s) = .ofNaNs (s || b.isSnan) := by
  have hneg : b.neg.isSnan = b.isSnan := by cases b <;> rfl
  simp only [List.forall_mem_cons, List.not_mem_nil, false_imp_iff, implies_true, and_true]
  refine ⟨⟨rfl, ?_⟩, ⟨?_, ?_⟩, ⟨rfl, ?_⟩, ⟨rfl, ?_⟩⟩
  case refine_2 => rw [← hneg]; rfl
  all_goals
    cases b with
    | nan t => rw [Bool.or_comm]; rfl
    | inf t => simp [FpVal.isSnan, FpFmt.add, FpFmt.sub, FpFmt.mul, FpFmt.div, FpVal.neg]
    | fin t m q => simp [FpVal.isSnan, FpFmt.add, FpFmt.sub, FpFmt.mul, FpFmt.div, FpVal.neg]

/-- A finite number, not zero, divided by a zero (R346). -/
theorem FpFmt.div_by_zero (t s : Bool) {m : Nat} (q q' : Int) (hm : 0 < m) :
    F.div rd (.fin t m q) (.fin s 0 q') = .num (F.withSign (t != s) F.infBits) flagZ false := by
  simp [FpFmt.div, hm.ne']

/-- The reciprocal root rounded twice of a zero and of +infinity is that rounded once (R372). -/
theorem FpFmt.Roomy.rsqrtTwice_zero {F : FpFmt} (hF : F.Roomy) (s : Bool) (q : Int) :
    F.rsqrtTwice rd (.fin s 0 q) = .num (F.withSign s F.infBits) flagZ false := by
  obtain ⟨q', hzero⟩ := hF.unpack_zero s
  show (F.div rd .one (F.unpack (F.withSign s 0))).withFlags flagsNone = _
  rw [hzero]
  cases s <;> rfl

theorem FpFmt.Roomy.rsqrtTwice_inf {F : FpFmt} (hF : F.Roomy) : F.rsqrtTwice rd (.inf false) = .num 0 flagsNone false := by
  show (F.div rd .one (F.unpack F.infBits)).withFlags flagsNone = _
  rw [hF.unpack_infBits]
  rfl

/-- A result of both readings of FRSQRT is one of FRSQRT. -/
theorem FpFmt.rsqrt_of_both {a : FpVal} {P : FpOut → Prop} (honce : P (F.rsqrtOnce rd a)) (htwice : P (F.rsqrtTwice rd a)) :
    P (F.rsqrt rd a) := by
  rw [F.rsqrt_eq]
  split
  · exact htwice
  · exact honce

/-- The sign bit of a result inverted (R352). -/
theorem FpFmt.withSign_xor_signBit (neg : Bool) {n : Nat} (hn : n < F.signBit) :
    F.withSign neg n ^^^ F.signBit = F.withSign (!neg) n := by
  have hxor : n ^^^ F.signBit = F.signBit + n := by
    have hor := Nat.two_pow_add_eq_or_of_lt hn 1
    rw [Nat.mul_one] at hor
    refine Nat.eq_of_testBit_eq fun i => ?_
    rw [FpFmt.signBit, hor, Nat.testBit_xor, Nat.testBit_or, Nat.testBit_two_pow]
    by_cases hi : F.prec + F.ebits - 1 = i
    · simp [← hi, Nat.testBit_lt_two_pow hn]
    · simp [hi]
  cases neg
  · exact hxor
  · show (F.signBit + n) ^^^ F.signBit = n
    rw [← hxor, Nat.xor_xor_cancel_right]


/-! ## The fused operation -/

section Fused
variable {a b c : FpVal}

/-- A signaling NaN among the operands (R333). -/
theorem FpFmt.fma_snan (h : a.isSnan = true ∨ b.isSnan = true ∨ c.isSnan = true) : F.fma rd a b c = .ofNaNs true := by
  rw [← or_assoc] at h
  unfold FpFmt.fma
  rw [if_pos (by simpa using h)]

/-- A quiet NaN among the factors. -/
theorem FpFmt.fma_qnan_factor (hs : ¬ (a.isSnan = true ∨ b.isSnan = true ∨ c.isSnan = true)) (h : a.isNan = true ∨ b.isNan = true) :
    F.fma rd a b c = .ofNaNs false := by
  rw [← or_assoc] at hs
  unfold FpFmt.fma
  rw [if_neg (by simpa using hs), if_pos (by simpa using h)]

/-- A factor that is a number or an infinity. -/
def FpVal.Ordered (a : FpVal) : Prop := a.isSnan = false ∧ a.isNan = false

/-- The product of zero and infinity: V, or what a quiet NaN for an addend makes of it (R333). -/
theorem FpFmt.fma_invalid (ha : a.Ordered) (hb : b.Ordered) (hc : c.isSnan = false)
    (h : (a.isZero = true ∧ b.isInf = true) ∨ (a.isInf = true ∧ b.isZero = true)) :
    F.fma rd a b c = if c.isNan then .ofNaNs Config.fmaInvalidWithQNaNAddend else .invalid := by
  unfold FpFmt.fma
  rw [if_neg (by simp [ha.1, hb.1, hc]), if_neg (by simp [ha.2, hb.2]), if_pos (by simpa using h)]

/-- A quiet NaN for an addend of a product that is valid. -/
theorem FpFmt.fma_qnan_addend (ha : a.Ordered) (hb : b.Ordered)
    (h : ¬ ((a.isZero = true ∧ b.isInf = true) ∨ (a.isInf = true ∧ b.isZero = true))) :
    F.fma rd a b (.nan false) = .ofNaNs false := by
  unfold FpFmt.fma
  rw [if_neg (by simp [ha.1, hb.1, show (FpVal.nan false).isSnan = false from rfl]), if_neg (by simp [ha.2, hb.2]),
    if_neg (by simpa using h)]

/-- An infinite product is added as the infinity of its sign. -/
theorem FpFmt.fma_inf {s t : Bool} {m : Nat} {q : Int} (hm : 0 < m) (hc : c.Ordered) :
    ∀ p ∈ [(FpVal.inf s, FpVal.inf t), (.inf s, .fin t m q), (.fin t m q, .inf s)],
      F.fma rd p.1 p.2 c = F.add rd (.inf (s != t)) c := by
  have hne : (m == 0) = false := beq_false_of_ne hm.ne'
  have hcomm : (t != s) = (s != t) := bne_comm
  simp only [List.forall_mem_cons, List.not_mem_nil, false_imp_iff, implies_true, and_true]
  cases c with
  | nan t => exact Bool.noConfusion hc.2
  | inf u => simp [FpFmt.fma, FpVal.isSnan, FpVal.isNan, FpVal.isZero, FpVal.isInf, hne, hcomm]
  | fin u m' q' => simp [FpFmt.fma, FpVal.isSnan, FpVal.isNan, FpVal.isZero, FpVal.isInf, hne, hcomm]

end Fused
end Special

/-- Settles O51: each clause is the branch of the operation that its operands take. -/
theorem specialOperandResults : Obligations.SpecialOperandResults := by
  intro F rd s t u m m' m'' q q' q'' a b c hformat inf zero invalid nan x y z
  have hF := FpFmt.roomy_of_format hformat
  have hinf : ∀ v, (FpVal.inf v).Ordered := fun v => ⟨rfl, rfl⟩
  have hfin : ∀ v n p, (FpVal.fin v n p).Ordered := fun v n p => ⟨rfl, rfl⟩
  have hne : ∀ v : Bool, v ≠ !v := by decide
  refine ⟨?add, ?mul, ?div, ?sqrt, ?rsqrt, ?nans, ?fmaSnan, ?fmaQnan, ?fmaInvalid, ?fmaInf, ?fmaAddend, ?negate, ?negateNan⟩
  case add =>
    refine ⟨if_neg (hne s), if_neg (hne s), if_pos rfl, ?_, rfl, rfl, rfl, rfl⟩
    show F.add rd (.inf s) (.inf !!s) = inf s
    rw [Bool.not_not]
    exact if_pos rfl
  case mul =>
    refine ⟨rfl, rfl, rfl, fun hm => ⟨if_neg hm.ne', (if_neg hm.ne').trans ?_⟩⟩
    rw [bne_comm]
    rfl
  case div =>
    have hcomm : (t != s) = (s != t) := bne_comm
    exact ⟨rfl, rfl, fun hm => hcomm ▸ F.div_by_zero rd t s q q' hm, rfl, congrArg zero hcomm⟩
  case sqrt => exact ⟨fun hm => if_neg hm.ne', rfl, rfl, rfl, rfl⟩
  case rsqrt =>
    refine ⟨fun hm => ?_, ?_, ?_, ?_, ?_⟩
    · have hsqrt : F.sqrt rd (.fin true m q) = .invalid := if_neg hm.ne'
      refine F.rsqrt_of_both rd (P := fun r => r = invalid ∨ r = nan true) (.inl (if_neg hm.ne')) (.inr ?_)
      rw [FpFmt.rsqrtTwice, hsqrt]
      rfl
    · exact F.rsqrt_of_both rd (P := fun r => r = invalid ∨ r = nan true) (.inl rfl) (.inr rfl)
    · exact F.rsqrt_of_both rd (P := (· = _)) rfl (hF.rsqrtTwice_zero rd s q)
    · exact F.rsqrt_of_both rd (P := (· = _)) rfl (hF.rsqrtTwice_inf rd)
    · exact F.rsqrt_of_both rd (P := (· = _)) rfl rfl
  case nans => exact F.nan_operands rd s b
  case fmaSnan => exact F.fma_snan rd
  case fmaQnan => exact F.fma_qnan_factor rd
  case fmaInvalid =>
    intro hc
    have hsnan : c.isSnan = false := Bool.not_eq_true _ ▸ hc
    have hzeroInf := F.fma_invalid rd (hfin s 0 q) (hinf t) hsnan (.inl ⟨rfl, rfl⟩)
    have hinfZero := F.fma_invalid rd (hinf s) (hfin t 0 q) hsnan (.inr ⟨rfl, rfl⟩)
    refine ⟨fun hnan => ?_, fun hnan => ?_, fun hnan => ?_⟩
    · rw [hzeroInf, hinfZero, if_pos hnan]
      exact ⟨rfl, rfl⟩
    · rw [hzeroInf, hinfZero, if_neg hnan]
      exact ⟨rfl, rfl⟩
    · have hquiet : c = .nan false := by
        cases c with
        | nan v => exact congrArg _ hsnan
        | inf v => cases hnan
        | fin v n p => cases hnan
      rw [hquiet]
      refine ⟨F.fma_qnan_addend rd (hfin t m q) (hfin s m' q') (by simp [FpVal.isInf]),
        F.fma_qnan_addend rd (hinf s) (hinf t) (by simp [FpVal.isZero]), fun hm =>
        ⟨F.fma_qnan_addend rd (hinf s) (hfin t m q) (by simpa [x, FpVal.isZero, FpVal.isInf] using hm.ne'),
          F.fma_qnan_addend rd (hfin t m q) (hinf s) (by simpa [x, FpVal.isZero, FpVal.isInf] using hm.ne')⟩⟩
  case fmaInf =>
    intro hm p hp
    rw [F.fma_inf rd hm (hinf _) p hp, F.fma_inf rd hm (hinf _) p hp, F.fma_inf rd hm (hfin u m'' q'') p hp]
    exact ⟨if_pos rfl, if_neg (hne _), rfl⟩
  case fmaAddend =>
    simp [FpFmt.fma, FpVal.isSnan, FpVal.isNan, FpVal.isInf, x, y, inf, FpOut.exact]
  case negate =>
    intro neg n e te hn
    rw [FpFmt.negate, F.withSign_xor_signBit neg hn]
  case negateNan => exact fun e => ⟨rfl, rfl⟩

end Sys2Proof.Machine

namespace Sys2Proof.Machine

/-! ### Conversions between formats and from integers -/

/-- A number that fits the significand and the normal exponents of the format keeps its value (R331). -/
theorem FpFmt.Roomy.round_exact {F : FpFmt} (hF : F.Roomy) {m : Nat} {q : Int} (hm : 0 < m) (hprec : m < 2 ^ F.prec)
    (hnormal : F.emin ≤ q) (htop : (m : ℝ) * 2 ^ q < F.beyond) (rd : Rounding) (neg : Bool) :
    ∃ mag, mag < F.infBits ∧ F.round rd neg m q = .num (F.withSign neg mag) flagsNone false ∧
      F.magnitude mag = m * 2 ^ q := by
  obtain ⟨hround, hexact⟩ := StandsFor.roundsTo (x := m) hF (.inl rfl) hm q rd neg
  have hlog : m.log2 < F.prec := (Nat.log2_lt hm.ne').mpr hprec
  have hplace : ¬ q < F.quantum (q + (m.log2 : Int)) := by
    have := hF.prec
    unfold FpFmt.quantum FpFmt.qmin
    omega
  have hvalue := not_not.mp (mt hexact.mpr fun h => hplace h.1)
  have hmag := hround.eq_of_exact hvalue
  have hlt : F.encodeUnits (F.quantum (q + (m.log2 : Int))) (unitsRounded rd neg m q (F.quantum (q + (m.log2 : Int)))) < F.infBits := by
    rw [← hF.magnitude_strictMono.lt_iff_lt, hmag, ← hvalue, ← hF.beyond_eq]
    exact htop
  refine ⟨_, hlt, ?_, by rw [hmag, hvalue]⟩
  rw [F.round_eq rd neg hm q, if_neg (not_le.mpr hlt), decide_eq_false hplace,
    decide_eq_false (show ¬ q + (m.log2 : Int) < F.emin by omega)]
  simp [flagsNone]

/-- What such a number is converted to stands for it, with its sign. -/
theorem FpFmt.Roomy.round_keeps {F : FpFmt} (hF : F.Roomy) {m : Nat} {q : Int} (hprec : m < 2 ^ F.prec)
    (hnormal : F.emin ≤ q) (htop : (m : ℝ) * 2 ^ q < F.beyond) (rd : Rounding) (neg : Bool) :
    ∃ b, F.round rd neg m q = .num b flagsNone false ∧ F.FiniteBits b ∧ (F.unpack b).rat = (FpVal.fin neg m q).rat ∧
      (b / F.signBit = 1 ↔ neg = true) := by
  have hvalue : ∃ mag, mag < F.infBits ∧ F.round rd neg m q = .num (F.withSign neg mag) flagsNone false ∧
      F.magnitude mag = m * 2 ^ q := by
    rcases Nat.eq_zero_or_pos m with rfl | hm
    · exact ⟨0, by have := hF.two_le_infBits; omega, rfl, by simp [F.magnitude_zero]⟩
    · exact hF.round_exact hm hprec hnormal htop rd neg
  obtain ⟨mag, hlt, hround, hmag⟩ := hvalue
  refine ⟨_, hround, hF.finiteBits_withSign neg hlt, Rat.cast_injective (α := ℝ) ?_, ?_⟩
  · rw [hF.rat_withSign neg hlt, hmag, FpVal.rat_fin]
  · rw [FpFmt.withSign_div_signBit neg (hlt.trans hF.infBits_lt_signBit)]
    cases neg <;> decide

/-- A finite binary32 datum, by its fields (R330). -/
theorem fp32_finite {w : Word} (h : (fp32 w).Finite) : ∃ m q, fp32 w = .fin (w.getLsbD 31) m q ∧ m < 2 ^ 24 ∧ -149 ≤ q ∧ q ≤ 104 := by
  unfold fp32 FpVal.Finite at *
  rw [unpack_b32] at *
  rw [getLsbD_eq_decide]
  split_ifs at h ⊢ with htop hfrac hsub
  · exact absurd h.2 (by simp [FpVal.isInf])
  · exact absurd h.1 (by simp [FpVal.isNan])
  · exact ⟨_, _, rfl, by omega, by omega, by omega⟩
  · exact ⟨_, _, rfl, by omega, by omega, by omega⟩

/-- A finite binary64 datum has its top bit for a sign. -/
theorem fp64_finite {d : DWord} (h : (fp64 d).Finite) : ∃ m q, fp64 d = .fin (d.getLsbD 63) m q := by
  unfold fp64 FpVal.Finite at *
  rw [unpack_b64] at *
  rw [getLsbD_eq_decide]
  split_ifs at h ⊢ with htop hfrac hsub
  · exact absurd h.2 (by simp [FpVal.isInf])
  · exact absurd h.1 (by simp [FpVal.isNan])
  · exact ⟨_, _, rfl⟩
  · exact ⟨_, _, rfl⟩

/-- A number of at most 53 bits in the range of binary32 has a binary64 pattern (R384, R386). -/
theorem round_b64_keeps {m : Nat} {q : Int} (hm : m < 2 ^ 53) (hlo : -149 ≤ q) (hhi : q ≤ 104) (rd : Rounding) (neg : Bool) :
    ∃ b, FpFmt.b64.round rd neg m q = .num b flagsNone false ∧ FpFmt.b64.FiniteBits b ∧
      (FpFmt.b64.unpack b).rat = (FpVal.fin neg m q).rat ∧ (b / FpFmt.b64.signBit = 1 ↔ neg = true) := by
  have hF : FpFmt.b64.Roomy := FpFmt.roomy_of_format (.inr rfl)
  refine hF.round_keeps hm ((by decide : FpFmt.b64.emin ≤ -149).trans hlo) ?_ rd neg
  have hmreal : (m : ℝ) ≤ (2 : ℝ) ^ (53 : Int) := by exact_mod_cast hm.le
  calc (m : ℝ) * 2 ^ q ≤ (2 : ℝ) ^ (53 : Int) * 2 ^ (104 : Int) :=
        mul_le_mul hmreal (zpow_le_zpow_right₀ one_le_two hhi) (by positivity) (by positivity)
    _ = (2 : ℝ) ^ (157 : Int) := by rw [← zpow_add₀ two_ne_zero]; rfl
    _ < (2 : ℝ) ^ ((FpFmt.b64.bias + 1 : Nat) : Int) := zpow_lt_zpow_right₀ one_lt_two (by decide)
    _ = FpFmt.b64.beyond := by rw [FpFmt.beyond, zpow_natCast]; push_cast; rfl

theorem rat_ofInt (i : Int) : (FpVal.fin (decide (i < 0)) i.natAbs 0).rat = i := by
  apply Rat.cast_injective (α := ℝ)
  rw [FpVal.rat_fin, zpow_zero, mul_one, ← cast_eq_signOf_mul_natAbs, Rat.cast_intCast]

theorem natAbs_toInt_le (w : Word) : w.toInt.natAbs ≤ 2 ^ 31 := by
  have h1 := BitVec.toInt_lt (x := w)
  have h2 := BitVec.le_toInt w
  omega

/-- What is at most the largest number does not overflow (R332). -/
theorem FpFmt.Roomy.not_overflows_of_le {F : FpFmt} (hF : F.Roomy) (rd : Rounding) (neg : Bool) {x : ℝ} (hx : 0 < x)
    (hle : x ≤ F.magnitude (F.infBits - 1)) : ¬ F.Overflows rd (signOf neg * x) := by
  have hlt : F.magnitude (F.infBits - 1) < F.magnitude F.infBits :=
    hF.magnitude_strictMono (by have := hF.two_le_infBits; omega)
  rw [hF.overflows_signOf rd neg hx]
  rintro (h | h)
  · linarith
  · exact hle.not_gt (Rounding.lt_of_goesUp hlt h)

theorem two_pow_le_largest_b32 : (2 : ℝ) ^ 31 ≤ FpFmt.b32.magnitude (FpFmt.b32.infBits - 1) := by
  have hF : FpFmt.b32.Roomy := FpFmt.roomy_of_format (.inl rfl)
  have hgrid : FpFmt.b32.magnitude (157 * 2 ^ 23 + 2 ^ 23) = ((2 ^ 23 : Nat) : ℝ) * 2 ^ (((157 : Nat) : Int) + FpFmt.b32.qmin) :=
    hF.magnitude_grid (by decide) (.inr le_rfl)
  rw [show ((157 : Nat) : Int) + FpFmt.b32.qmin = (8 : Nat) by decide, zpow_natCast] at hgrid
  calc (2 : ℝ) ^ 31 = FpFmt.b32.magnitude (157 * 2 ^ 23 + 2 ^ 23) := by rw [hgrid]; norm_num
    _ ≤ FpFmt.b32.magnitude (FpFmt.b32.infBits - 1) := hF.magnitude_strictMono.monotone (by decide)

/-- A 32-bit integer that is not 0 is rounded to binary32 with no exception besides I (R385). -/
theorem ofInt_b32_flags {i : Int} (hi : i ≠ 0) (hle : i.natAbs ≤ 2 ^ 31) (rd : Rounding) :
    FpFmt.b32.Correct rd (i : ℝ) (FpFmt.b32.ofInt rd i) ∧
      ((FpFmt.b32.ofInt rd i).flags = flagsNone ∨ (FpFmt.b32.ofInt rd i).flags = flagI) := by
  have hF : FpFmt.b32.Roomy := FpFmt.roomy_of_format (.inl rfl)
  have hpos := Int.natAbs_pos.mpr hi
  have hcorrect : FpFmt.b32.Correct rd (i : ℝ) (FpFmt.b32.ofInt rd i) := by
    have := hF.correct_round hpos 0 rd (decide (i < 0))
    rwa [zpow_zero, mul_one, ← cast_eq_signOf_mul_natAbs] at this
  refine ⟨hcorrect, ?_⟩
  obtain ⟨b, e, te, hr, -, hfin⟩ := hcorrect
  have hlow : (1 : ℝ) ≤ i.natAbs := by exact_mod_cast hpos
  have hhigh : (i.natAbs : ℝ) ≤ 2 ^ 31 := by exact_mod_cast hle
  have hnot : ¬ FpFmt.b32.Overflows rd (i : ℝ) := by
    rw [cast_eq_signOf_mul_natAbs]
    exact hF.not_overflows_of_le rd _ (by linarith) (hhigh.trans two_pow_le_largest_b32)
  obtain ⟨-, -, -, hexc⟩ := hfin hnot
  have hflags : (FpFmt.b32.ofInt rd i).flags = e := by rw [hr]; rfl
  rw [hflags]
  by_cases hexact : (i : ℝ) = ((FpFmt.b32.unpack b).rat : ℚ)
  · exact .inl (hexc.exact hexact)
  · refine .inr ((hexc.inexact hexact).resolve_right fun h => ?_)
    have hsmall := h.2
    rw [FpFmt.b32.belowNormal_eq.2.2, cast_eq_signOf_mul_natAbs, abs_signOf_mul, Nat.abs_cast] at hsmall
    have : (2 : ℝ) ^ FpFmt.b32.emin ≤ 2 ^ (0 : Int) := zpow_le_zpow_right₀ one_le_two (by decide)
    rw [zpow_zero] at this
    linarith

/-- Settles O52: what fits is kept, what does not is rounded once, and the special data are the branches of the operation. -/
theorem conversionsAreExactOrRoundedOnce : Obligations.ConversionsAreExactOrRoundedOnce := by
  intro rd w d
  have hF : FpFmt.b32.Roomy := FpFmt.roomy_of_format (.inl rfl)
  refine ⟨?widen, ?int64, ?intZero64, ?narrow, ?narrowZero, ?int32, ?intZero32, ?infs, ?nans, ?quiet⟩
  case widen =>
    intro hfin
    obtain ⟨m, q, heq, hm, hlo, hhi⟩ := fp32_finite hfin
    rw [heq]
    exact round_b64_keeps (hm.trans (by decide)) hlo hhi rd _
  case int64 =>
    obtain ⟨b, hround, hfin, hrat, -⟩ := round_b64_keeps (m := w.toInt.natAbs) (q := 0)
      ((natAbs_toInt_le w).trans_lt (by decide)) (by decide) (by decide) rd (decide (w.toInt < 0))
    exact ⟨b, hround, hfin, hrat.trans (rat_ofInt _)⟩
  case intZero64 | intZero32 =>
    rintro rfl
    rfl
  case narrow =>
    intro hfin hne
    obtain ⟨m, q, heq⟩ := fp64_finite hfin
    rw [heq] at hne ⊢
    rw [FpVal.rat_fin]
    exact hF.correct_round (Nat.pos_of_ne_zero (mt (FpVal.rat_eq_zero_iff _ _ _).mpr hne)) q rd _
  case narrowZero =>
    intro hfin hzero
    obtain ⟨m, q, heq⟩ := fp64_finite hfin
    rw [heq] at hzero ⊢
    obtain rfl := (FpVal.rat_eq_zero_iff _ _ _).mp hzero
    rfl
  case int32 =>
    intro hne
    exact ofInt_b32_flags (fun h => hne (BitVec.eq_of_toInt_eq h)) (natAbs_toInt_le w) rd
  case infs => exact fun neg => ⟨fun h => by rw [h]; rfl, fun h => by rw [h]; rfl⟩
  case nans => exact fun signaling => ⟨fun h => by rw [h]; rfl, fun h => by rw [h]; rfl⟩
  case quiet => exact fun op args e => ⟨isQuietNaN32_quiet32 _, isQuietNaN64_quiet64 _⟩

end Sys2Proof.Machine

namespace Sys2Proof.Machine

/-! ### Conversions to an integer -/

/-- Between two neighbouring integers at most one is the integer part. -/
theorem int_eq_of_bracket {i j : Int} {x : ℝ} (hi : (i : ℝ) ≤ x) (hi' : x < i + 1) (hj : (j : ℝ) ≤ x) (hj' : x < j + 1) : i = j := by
  have h1 : (i : ℝ) < ((j + 1 : Int) : ℝ) := by push_cast; linarith
  have h2 : (j : ℝ) < ((i + 1 : Int) : ℝ) := by push_cast; linarith
  rw [Int.cast_lt] at h1 h2
  omega

/-- `v` is the real magnitude `x` with the sign `neg`, rounded to an integer; `n` is its integer part, `r` what the direction
makes of it. -/
structure RoundsUnits (rd : Rounding) (neg : Bool) (x : ℝ) (n r : Nat) : Prop where
  lower : (n : ℝ) ≤ x
  upper : x < n + 1
  choice : (rd.GoesUp neg (n % 2 == 1) x n (n + 1) ∧ r = n + 1) ∨ (¬ rd.GoesUp neg (n % 2 == 1) x n (n + 1) ∧ r = n)

section Units
variable {rd : Rounding} {neg : Bool} {x : ℝ} {n r : Nat}

/-- Cut off without rounding up, the integer is the integer part. -/
theorem RoundsUnits.eq_of_floor (h : RoundsUnits rd neg x n r) (hdown : ¬ rd.GoesUp neg (n % 2 == 1) x n (n + 1)) {i : Int}
    (hlo : (i : ℝ) ≤ x) (hhi : x < i + 1) : i = r := by
  rw [(h.choice.resolve_left fun hup => hdown hup.1).2]
  exact int_eq_of_bracket hlo hhi (by exact_mod_cast h.lower) (by exact_mod_cast h.upper)

/-- Rounded up unless it is exact, it is the least integer at or above. -/
theorem RoundsUnits.eq_of_ceil (h : RoundsUnits rd neg x n r) (hup : (n : ℝ) < x → rd.GoesUp neg (n % 2 == 1) x n (n + 1)) {i : Int}
    (hlo : x ≤ i) (hhi : (i : ℝ) < x + 1) : i = r := by
  have hlower := h.lower
  have hupper := h.upper
  rcases hlower.lt_or_eq with hlt | heq
  · rw [(h.choice.resolve_right fun hdown => hdown.1 (hup hlt)).2]
    have h1 : ((n : Int) : ℝ) < (i : ℝ) := by push_cast; linarith
    have h2 : (i : ℝ) < ((n + 2 : Int) : ℝ) := by push_cast; linarith
    rw [Int.cast_lt] at h1 h2
    push_cast
    omega
  · have hnot : ¬ rd.GoesUp neg (n % 2 == 1) x n (n + 1) := by
      rw [← heq]
      exact rd.not_goesUp_self neg _ (by linarith)
    exact h.eq_of_floor hnot (by
      have : (i : ℝ) < ((n + 1 : Int) : ℝ) := by push_cast; linarith
      have : i ≤ n := by rw [Int.cast_lt] at this; omega
      have : (i : ℝ) ≤ ((n : Int) : ℝ) := by exact_mod_cast this
      push_cast at this
      linarith) (by linarith)

/-- To nearest, ties to even, it is the one integer so near. -/
theorem RoundsUnits.eq_of_nearest (h : RoundsUnits .nearestEven neg x n r) {i : Int} (hnear : |x - i| ≤ 1 / 2)
    (htie : |x - i| = 1 / 2 → i % 2 = 0) : i = r := by
  obtain ⟨hlo, hhi⟩ := abs_le.mp hnear
  have hlower := h.lower
  have hupper := h.upper
  have h1 : ((n : Int) : ℝ) < ((i + 1 : Int) : ℝ) := by push_cast; linarith
  have h2 : (i : ℝ) < ((n + 2 : Int) : ℝ) := by push_cast; linarith
  rw [Int.cast_lt] at h1 h2
  rcases (show i = n ∨ i = n + 1 by omega) with rfl | rfl
  · rcases h.choice with ⟨hup, -⟩ | ⟨-, rfl⟩
    · push_cast at hhi htie
      rcases hup with hup | ⟨hmid, hodd⟩
      · linarith
      · have heven := htie (by rw [hmid, abs_of_nonneg (by linarith)]; ring)
        rw [beq_iff_eq] at hodd
        omega
    · rfl
  · rcases h.choice with ⟨-, rfl⟩ | ⟨hdown, -⟩
    · push_cast
      rfl
    · obtain ⟨hmid, hodd⟩ := not_or.mp hdown
      push_cast at hlo htie
      have hx : x = ((n : ℝ) + (n + 1)) / 2 := by linarith
      have heven := htie (by rw [hx, abs_of_neg (by linarith)]; ring)
      refine absurd ⟨hx, ?_⟩ hodd
      rw [beq_iff_eq]
      omega

/-- Toward zero it is the integer part with the sign. -/
theorem RoundsUnits.eq_of_toward_zero (h : RoundsUnits .towardZero neg x n r) {i : Int} (hle : |(i : ℝ)| ≤ x)
    (hlt : x < |(i : ℝ)| + 1) (hsign : 0 ≤ x * i) : i = r := by
  rw [← Int.cast_abs] at hle hlt
  have habs := h.eq_of_floor id hle hlt
  rcases le_or_gt 0 i with hi | hi
  · rwa [abs_of_nonneg hi] at habs
  · rw [abs_of_neg hi] at habs
    have hneg : (i : ℝ) ≤ -1 := by exact_mod_cast (show i ≤ -1 by omega)
    have hone : (1 : ℝ) ≤ x := by
      rw [abs_of_neg hi] at hle
      push_cast at hle
      linarith
    nlinarith

/-- The integer to which a number is rounded in a direction, its sign dropped, is what the direction makes of the magnitude
(R397). -/
theorem RoundsUnits.unique (h : RoundsUnits rd neg x n r) {a : ℚ} (ha : (a : ℝ) = signOf neg * x) {v w : Int}
    (hw : (v : ℝ) = signOf neg * w) (hv : RoundsToInt rd a v) : w = r := by
  have hx : 0 ≤ x := (Nat.cast_nonneg n).trans h.lower
  cases rd with
  | nearestEven =>
    have hdist : |x - w| = ((|a - v| : ℚ) : ℝ) := by
      push_cast
      rw [ha, hw, ← mul_sub, abs_signOf_mul]
    have hhalf : (1 / 2 : ℝ) = ((1 / 2 : ℚ) : ℝ) := by norm_num
    obtain ⟨hnear, heven⟩ := hv
    refine h.eq_of_nearest ?_ fun htie => ?_
    · rw [hdist, hhalf]
      exact Rat.cast_le.mpr hnear
    · rw [hdist, hhalf, Rat.cast_inj] at htie
      replace heven := heven htie
      have hparity : v = w ∨ v = -w := by
        cases neg
        · exact .inl (by simpa using hw)
        · exact .inr (by rw [signOf_true, neg_one_mul] at hw; exact_mod_cast hw)
      omega
  | towardZero =>
    obtain ⟨hle, hlt, hsign⟩ := hv
    have habs : |(w : ℝ)| = |(v : ℝ)| := by rw [hw, abs_signOf_mul]
    have hax : |(a : ℝ)| = x := by rw [ha, abs_signOf_mul, abs_of_nonneg hx]
    have hprod : x * w = a * v := by
      rw [ha, hw]
      cases neg <;> simp
    refine h.eq_of_toward_zero ?_ ?_ ?_
    · rw [habs, ← hax]
      exact_mod_cast hle
    · rw [habs, ← hax]
      exact_mod_cast hlt
    · rw [hprod]
      exact_mod_cast hsign
  | up =>
    have hle : (a : ℝ) ≤ v := by exact_mod_cast hv.1
    have hlt : (v : ℝ) < a + 1 := by exact_mod_cast hv.2
    rw [ha, hw] at hle hlt
    cases neg
    · rw [signOf_false, one_mul, one_mul] at hle hlt
      exact h.eq_of_ceil (fun h => ⟨rfl, h⟩) hle hlt
    · rw [signOf_true, neg_one_mul, neg_one_mul] at hle hlt
      exact h.eq_of_floor (fun h => Bool.noConfusion h.1) (by linarith) (by linarith)
  | down =>
    have hle : (v : ℝ) ≤ a := by exact_mod_cast hv.1
    have hlt : (a : ℝ) < v + 1 := by exact_mod_cast hv.2
    rw [ha, hw] at hle hlt
    cases neg
    · rw [signOf_false, one_mul, one_mul] at hle hlt
      exact h.eq_of_floor (fun h => Bool.noConfusion h.1) hle hlt
    · rw [signOf_true, neg_one_mul, neg_one_mul] at hle hlt
      exact h.eq_of_ceil (fun h => ⟨rfl, h⟩) (by linarith) (by linarith)

/-- The result is exact exactly when the number is its integer part. -/
theorem RoundsUnits.exact_iff (h : RoundsUnits rd neg x n r) : x = r ↔ x = n := by
  have hupper := h.upper
  rcases h.choice with ⟨hup, rfl⟩ | ⟨-, rfl⟩
  · refine iff_of_false (by push_cast; exact hupper.ne) fun heq => ?_
    rw [heq] at hup
    exact rd.not_goesUp_self neg _ (by linarith) hup
  · rfl

end Units

/-- The number m * 2^q in units of 1 (R397). -/
theorem roundsUnits_one (rd : Rounding) (neg : Bool) (m : Nat) (q : Int) :
    RoundsUnits rd neg (m * 2 ^ q) (unitsBelow m q 0) (unitsRounded rd neg m q 0) ∧
      (q < 0 ∧ m % 2 ^ (0 - q).toNat ≠ 0 ↔ (m : ℝ) * 2 ^ q ≠ unitsBelow m q 0) := by
  obtain ⟨hlo, hhi, hexact, hchoice⟩ := StandsFor.units (bits := m) (x := m) (.inl rfl) (q := q) (t := 0)
    (fun h => absurd h (not_le.mpr Nat.lt_two_pow_self)) rd neg
  rw [zpow_zero, div_one] at hlo hhi hexact hchoice
  exact ⟨⟨hlo, hhi, hchoice⟩, hexact⟩

/-- What the conversion computes, named (R397). -/
theorem FpVal.toSint32_fin (rd : Rounding) (s : Bool) (m : Nat) (q : Int) :
    let r : Int := if s then -(unitsRounded rd s m q 0 : Int) else unitsRounded rd s m q 0
    (FpVal.fin s m q).toSint32 rd = if r < -(2 ^ 31) ∨ 2 ^ 31 - 1 < r then none else
      some (BitVec.ofInt 32 r, if decide (q < 0) && m % 2 ^ (0 - q).toNat != 0 then flagI else flagsNone) := by
  simp only [FpVal.toSint32, unitsRounded, sub_zero, zero_sub]

/-- A finite number that rounds to an integer of 32 bits is converted to it, with I unless it is that integer (R397). -/
theorem FpVal.toSint32_of_rounds {rd : Rounding} {a : FpVal} (ha : a.Finite) {v : Int} (hv : RoundsToInt rd a.rat v) :
    a.toSint32 rd = if v < -(2 ^ 31) ∨ 2 ^ 31 - 1 < v then none else
      some (BitVec.ofInt 32 v, if a.rat = v then flagsNone else flagI) := by
  cases a with
  | nan s => exact absurd ha.1 (by simp [FpVal.isNan])
  | inf s => exact absurd ha.2 (by simp [FpVal.isInf])
  | fin s m q =>
    obtain ⟨hrounds, hexact⟩ := roundsUnits_one rd s m q
    have hunique := hrounds.unique (FpVal.rat_fin s m q) (w := if s then -v else v) (by cases s <;> simp) hv
    have hr : (if s then -(unitsRounded rd s m q 0 : Int) else unitsRounded rd s m q 0) = v := by
      rw [← hunique]
      cases s <;> simp
    have hflag : (decide (q < 0) && m % 2 ^ (0 - q).toNat != 0) = true ↔ (FpVal.fin s m q).rat ≠ v := by
      have hcast : (FpVal.fin s m q).rat = v ↔ (m : ℝ) * 2 ^ q = unitsRounded rd s m q 0 := by
        rw [← Rat.cast_inj (α := ℝ), FpVal.rat_fin, ← hr]
        cases s <;> simp
      rw [Bool.and_eq_true, decide_eq_true_eq, bne_iff_ne, hexact, Ne, Ne, hcast, hrounds.exact_iff]
    rw [FpVal.toSint32_fin, hr]
    simp only [hflag, ite_not]

/-- A NaN and an infinity have no integer (R397). -/
theorem FpVal.toSint32_of_not_finite {rd : Rounding} {a : FpVal} (ha : ¬ a.Finite) : a.toSint32 rd = none := by
  cases a with
  | nan s => rfl
  | inf s => rfl
  | fin s m q => exact absurd ⟨rfl, rfl⟩ ha

/-- Settles O42: the integer the statement names is the one the conversion computes, and where that is out of range, or there
is none, the conversion raises V. -/
theorem integerConversionResults : Obligations.IntegerConversionResults := by
  intro s fd fj hfpe p hp a
  obtain ⟨invalid, hexec⟩ := exec_intConversions s fd fj p hp
  rw [hexec]
  constructor
  · intro n hfin hrounds hlo hhi e hquiet
    have hconv := FpVal.toSint32_of_rounds hfin hrounds
    rw [if_neg (by omega)] at hconv
    unfold State.toInt
    rw [hconv]
    exact commitsLow_fpCommit (te := false) hfpe fd 0 hquiet rfl
  · intro hnone hquiet
    have hconv : p.2.2.toSint32 p.2.1 = none := by
      by_cases hfin : a.Finite
      · obtain ⟨n, hrounds, hout⟩ := hnone.resolve_left (not_not.mpr hfin)
        rw [FpVal.toSint32_of_rounds hfin hrounds, if_pos hout]
      · exact FpVal.toSint32_of_not_finite hfin
    unfold State.toInt
    rw [hconv]
    exact commitsLow_fpCommit (te := false) (v := invalid) hfpe fd 0 hquiet trivial

end Sys2Proof.Machine

namespace Sys2Proof.Machine

/-! ### The relation of two data -/

theorem FpRel.ofInts_eq_lt {i j : Int} : FpRel.ofInts i j = .lt ↔ i < j := by
  unfold FpRel.ofInts
  split_ifs with hlt heq <;> simp [hlt]

theorem FpRel.ofInts_eq_eq {i j : Int} : FpRel.ofInts i j = .eq ↔ i = j := by
  unfold FpRel.ofInts
  split_ifs with hlt heq
  · simp [hlt.ne]
  · simp [heq]
  · simp [heq]

theorem FpRel.ofInts_eq_gt {i j : Int} : FpRel.ofInts i j = .gt ↔ j < i := by
  unfold FpRel.ofInts
  split_ifs with hlt heq
  · simp [hlt.le]
  · simp [heq]
  · simp [lt_of_le_of_ne (not_lt.mp hlt) (Ne.symm heq)]

/-- Two finite numbers are compared as integer numbers of one unit, the lower of their places (R381). -/
theorem FpVal.relation_eq_ofInts {a b : FpVal} (ha : a.Finite) (hb : b.Finite) :
    ∃ i j t : Int, a.rat = i * 2 ^ t ∧ b.rat = j * 2 ^ t ∧ a.relation b = .ofInts i j := by
  obtain ⟨hanan, hainf⟩ := ha
  obtain ⟨hbnan, hbinf⟩ := hb
  cases a with
  | nan s => cases hanan
  | inf s => cases hainf
  | fin s1 m1 q1 =>
    cases b with
    | nan s => cases hbnan
    | inf s => cases hbinf
    | fin s2 m2 q2 =>
      exact ⟨_, _, min q1 q2, rat_eq_units s1 m1 (min_le_left q1 q2), rat_eq_units s2 m2 (min_le_right q1 q2), rfl⟩

/-- The relation of two finite numbers is that of the numbers they stand for (R381). -/
theorem FpVal.relation_of_finite {a b : FpVal} (ha : a.Finite) (hb : b.Finite) :
    (a.relation b = .lt ↔ a.rat < b.rat) ∧ (a.relation b = .eq ↔ a.rat = b.rat) ∧ (a.relation b = .gt ↔ b.rat < a.rat) := by
  obtain ⟨i, j, t, hi, hj, hrel⟩ := FpVal.relation_eq_ofInts ha hb
  have hunit : (0 : ℚ) < 2 ^ t := zpow_pos two_pos t
  rw [hi, hj, hrel, FpRel.ofInts_eq_lt, FpRel.ofInts_eq_eq, FpRel.ofInts_eq_gt]
  simp only [mul_lt_mul_iff_left₀ hunit, mul_left_inj' hunit.ne', Int.cast_lt, Int.cast_inj, and_self]

/-- An infinity is beyond every finite number and the other infinity, on the side of its sign (R381). -/
theorem FpVal.relation_inf {neg : Bool} {b : FpVal} (hb : b.Finite ∨ b = .inf (!neg)) :
    (FpVal.inf neg).relation b = if neg then .lt else .gt := by
  rcases hb with ⟨hnan, hinf⟩ | rfl
  · cases b with
    | nan s => cases hnan
    | inf s => cases hinf
    | fin s m q => rfl
  · cases neg <;> rfl

/-- Settles O41: finite numbers by their common unit, an infinity by its sign, and the second order of operands by the first. -/
theorem relationIsByValue : Obligations.RelationIsByValue := by
  intro a b
  refine ⟨FpVal.relation_eq_un, FpVal.relation_of_finite, fun neg ha => ?infinity⟩
  subst ha
  constructor
  case left =>
    rintro rfl
    exact FpVal.relation_self rfl
  case right =>
    intro hb
    have hrel := FpVal.relation_inf hb
    refine ⟨hrel, ?_⟩
    rw [FpVal.relation_swap, hrel]
    cases neg <;> rfl

end Sys2Proof.Machine

/-! ### Moves between registers, condition flags and their branches -/

namespace Sys2Proof.Machine

section Enabled
variable {s : State} (hfpe : s.fpe = true)
include hfpe

/-- With the unit on, the check of it drops out of an instruction (R46). -/
theorem State.complete_fpOnly (f : Unit → Res State) : s.complete (s.fpOnly.bind f) = s.complete (f ()) := by
  rw [State.fpOnly_ok hfpe, Res.ok_bind]

/-- An instruction that then writes a general register only does that. -/
theorem setsReg_fpOnly (rd : GReg) (v : Word) :
    SetsReg s (s.complete (s.fpOnly.bind fun _ => .ok (s.setReg rd v).advance)) rd v := by
  rw [State.complete_fpOnly hfpe]
  exact ⟨_, rfl, s.wroteReg_setReg rd v⟩

/-- So does one that writes a condition flag. -/
theorem setsCflag_fpOnly (cd : CReg) (v : Bool) :
    SetsCflag s (s.complete (s.fpOnly.bind fun _ => .ok (s.setCflag cd v).advance)) cd v := by
  rw [State.complete_fpOnly hfpe]
  exact ⟨_, rfl, s.wroteCflag_setCflag cd v⟩

/-- So does one that branches (R435, R436). -/
theorem goesTo_fpOnly_branchIf {n : Nat} (offs : BitVec n) {taken : Bool} {P : Prop} [Decidable P] (h : taken = true ↔ P) :
    GoesTo s (s.complete (s.fpOnly.bind fun _ => .ok (s.branchIf taken offs)))
      (if P then BitVec.ofInt 32 (s.pc.toInt + 4 * offs.toInt) else s.pc + 4#32) := by
  rw [State.complete_fpOnly hfpe]
  exact s.goesTo_branchIf offs h

end Enabled

/-- A word above the low half of a doubleword, as a number (R424). -/
theorem append_extractLsb'_eq_ofNat (v : Word) (w : DWord) :
    v ++ w.extractLsb' 0 32 = BitVec.ofNat 64 (v.toNat * 2 ^ 32 + w.toNat % 2 ^ 32) := by
  have hlow : (w.extractLsb' 0 32).toNat = w.toNat % 2 ^ 32 := by rw [BitVec.extractLsb'_toNat, Nat.shiftRight_zero]
  have hsum : (v ++ w.extractLsb' 0 32).toNat = v.toNat * 2 ^ 32 + w.toNat % 2 ^ 32 := by
    rw [BitVec.toNat_append, ← Nat.shiftLeft_add_eq_or_of_lt (BitVec.isLt _), Nat.shiftLeft_eq, hlow]
  rw [← hsum, BitVec.ofNat_toNat, BitVec.setWidth_eq]

/-- Settles O43: with the unit on each instruction is one register write, and a half of a register is its remainder or its
quotient by 2^32. -/
theorem fpMoveResults : Obligations.FpMoveResults := by
  intro s fd fj fk ca rd rj hfpe
  have hlow : BitVec.ofNat 32 ((s.freg fj).toNat % 2 ^ 32) = s.fregLow fj := (extractLsb'_zero_eq_ofNat_mod _ 32).symm
  have hhigh : BitVec.ofNat 32 ((s.freg fj).toNat / 2 ^ 32) = (s.freg fj).extractLsb' 32 32 :=
    (extractLsb'_eq_ofNat _ 32 32).symm
  have hselect : (if s.cflag ca = false then s.freg fj else s.freg fk) = if s.cflag ca then s.freg fk else s.freg fj := by
    cases s.cflag ca <;> rfl
  rw [hlow, hhigh, hselect, ← append_extractLsb'_eq_ofNat]
  exact ⟨setsFregLow_fpOnly hfpe fd _, setsFreg_fpOnly hfpe fd _, setsFreg_fpOnly hfpe fd _, setsFregLow_fpOnly hfpe fd _,
    setsFreg_fpOnly hfpe fd _, setsReg_fpOnly hfpe rd _, setsReg_fpOnly hfpe rd _⟩

/-- The lowest bit of a register is the parity of its number (R431, R433). -/
theorem getLsbD_zero_eq_decide {w : Nat} (x : BitVec w) : x.getLsbD 0 = decide (x.toNat % 2 = 1) := by
  rw [getLsbD_eq_decide, Nat.pow_zero, Nat.div_one]

/-- A flag zero-extended to 64 bits (R432). -/
theorem setWidth_boolWord (b : Bool) : (boolWord b).setWidth 64 = if b then 1#64 else 0#64 := by
  cases b <;> rfl

/-- Settles O45: with the unit on each move is one write and each branch tests the flag. -/
theorem flagMovesAndFlagBranches : Obligations.FlagMovesAndFlagBranches := by
  intro s fd fj cd cj rd rj offs21 hfpe target
  rw [← getLsbD_zero_eq_decide, ← getLsbD_zero_eq_decide, ← setWidth_boolWord]
  exact ⟨setsCflag_fpOnly hfpe cd _, setsFreg_fpOnly hfpe fd _, setsCflag_fpOnly hfpe cd _, setsReg_fpOnly hfpe rd _,
    goesTo_fpOnly_branchIf hfpe offs21 (.of_eq (Bool.not_eq_true' _)), goesTo_fpOnly_branchIf hfpe offs21 Iff.rfl⟩

end Sys2Proof.Machine

/-! ### Exceptions: entry and return -/

namespace Sys2Proof.Machine

/-- The mode of one register (bits 2:0: PLV and IE) written into another: PLV, IE, and the other bits as before (R44, R45). -/
theorem setField_mode (w v : Word) :
    (setField w 0 (v.extractLsb' 0 3)).extractLsb' 0 2 = v.extractLsb' 0 2 ∧
      (setField w 0 (v.extractLsb' 0 3)).getLsbD 2 = v.getLsbD 2 ∧
      setField w 0 (v.extractLsb' 0 3) &&& ~~~0x7#32 = w &&& ~~~0x7#32 := by
  refine ⟨?_, ?_, setField_and_of_clear _ _ _ _ (by decide)⟩
  · rw [extractLsb'_setField_zero _ _ (by decide) (by decide), BitVec.extractLsb'_extractLsb'_of_le (by decide)]
  · rw [getLsbD_setField _ _ _ (by decide), if_pos (by decide)]
    simp

/-- CRMD with a new mode in bits 2:0 and, where `c` holds, new DA and PG bits: what each field becomes (R44, R490, R530). -/
theorem crmd_fields {w crmd : Word} {mode : BitVec 3} {c : Prop} [Decidable c] {dapg : BitVec 2}
    (h : crmd = if c then setField (setField w 0 mode) 3 dapg else setField w 0 mode) :
    crmd.extractLsb' 0 2 = mode.extractLsb' 0 2 ∧ crmd.getLsbD 2 = mode.getLsbD 2 ∧
      crmd.getLsbD 3 = (if c then dapg.getLsbD 0 else w.getLsbD 3) ∧
      crmd.getLsbD 4 = (if c then dapg.getLsbD 1 else w.getLsbD 4) ∧ crmd &&& ~~~0x1F#32 = w &&& ~~~0x1F#32 := by
  have hplv : (setField w 0 mode).extractLsb' 0 2 = mode.extractLsb' 0 2 :=
    extractLsb'_setField_zero w mode (by decide) (by decide)
  have hkept : setField w 0 mode &&& ~~~0x1F#32 = w &&& ~~~0x1F#32 := setField_and_of_clear _ _ _ _ (by decide)
  have hmode : ∀ i < 32, (setField w 0 mode).getLsbD i = if 0 ≤ i ∧ i < 3 then mode.getLsbD i else w.getLsbD i :=
    fun i hi => getLsbD_setField w 0 mode hi
  have hboth : ∀ i < 32, (setField (setField w 0 mode) 3 dapg).getLsbD i =
      if 3 ≤ i ∧ i < 5 then dapg.getLsbD (i - 3) else (setField w 0 mode).getLsbD i :=
    fun i hi => getLsbD_setField _ 3 dapg hi
  subst h
  split
  · rw [extractLsb'_setField_of_le _ _ (by decide) (by decide), hplv, setField_and_of_clear _ _ _ _ (by decide), hkept]
    exact ⟨rfl, (hboth 2 (by decide)).trans (hmode 2 (by decide)), hboth 3 (by decide), hboth 4 (by decide), rfl⟩
  · exact ⟨hplv, hmode 2 (by decide), hmode 3 (by decide), hmode 4 (by decide), hkept⟩

/-- The exceptions that write TLBEHI.VPPN, as a list (R531). -/
theorem Exc.recordsVppn_iff {e : Exc} : e.recordsVppn = true ↔ e ∈ [.tlbr, .pil, .pis, .pif, .pme, .ppi] := by
  cases e <;> decide

/-- The exceptions that write BADV, as a list (R531). -/
theorem Exc.recordsBadv_iff {e : Exc} :
    e.recordsBadv = true ↔ e ∈ [.tlbr, .pil, .pis, .pif, .pme, .ppi, .adef, .adem, .ale] := by
  cases e <;> decide

/-- The codes of each exception stand in the table of R501. -/
theorem Exc.codes_mem (e : Exc) : (e, e.ecode, e.esubcode) ∈ exceptionCodes := by
  cases e <;> decide

/-- Settles O21: PRMD gets the mode of CRMD, CRMD the mode 0 (and the DA and PG of a refill), ESTAT the codes; TLBEHI and
BADV go by whether the exception records an address. -/
theorem trapEntryContents : Obligations.TrapEntryContents := by
  intro s e va t
  obtain ⟨hpplv, hpie, hprmd⟩ := setField_mode s.csr.prmd s.csr.crmd
  obtain ⟨hplv, hie, hda, hpg, hcrmd⟩ := crmd_fields (show t.csr.crmd = _ from rfl)
  have hecode : t.csr.estat.extractLsb' 16 6 = e.ecode :=
    (extractLsb'_setField_apart _ _ (by decide) (by decide)).trans (extractLsb'_setField_same _ _ (by decide))
  have hesubcode : t.csr.estat.extractLsb' 22 9 = e.esubcode := extractLsb'_setField_same _ _ (by decide)
  have hestat : t.csr.estat &&& ~~~0x7FFF0000#32 = s.csr.estat &&& ~~~0x7FFF0000#32 :=
    (setField_and_of_clear _ _ _ _ (by decide)).trans (setField_and_of_clear _ _ _ _ (by decide))
  have htlbehi : t.csr.tlbehi = if e.recordsVppn then setField s.csr.tlbehi 13 (va.extractLsb' 13 19) else s.csr.tlbehi := rfl
  have hbadv : t.csr.badv = if e.recordsBadv then va else s.csr.badv := rfl
  refine ⟨hpplv, hpie, hprmd, hplv, hie, hcrmd, hda, hpg, rfl, ?codes, hestat, ?badv, ?vppn, ?low, rfl, rfl, rfl⟩
  case codes =>
    rw [hecode, hesubcode]
    exact e.codes_mem
  case badv => simp only [hbadv, Exc.recordsBadv_iff]
  case vppn =>
    simp only [htlbehi, Exc.recordsVppn_iff]
    split
    · exact extractLsb'_setField_same _ _ (by decide)
    · rfl
  case low =>
    rw [htlbehi]
    split
    · exact setField_and_of_clear _ _ _ _ (by decide)
    · rfl

/-- At PLV 0 the check of the level drops out of an instruction (R460). -/
theorem State.complete_kernelOnly {s : State} (hplv : s.plv = 0#2) (f : Unit → Res State) :
    s.complete (s.kernelOnly.bind f) = s.complete (f ()) := by
  rw [State.kernelOnly_ok hplv, Res.ok_bind]

/-- ERTN at PLV 0 with a previous level of 0 or 3 is the return (R490). -/
theorem exec_ertn {s : State} (hplv : s.plv = 0#2) (hpplv : s.pplv = 0#2 ∨ s.pplv = 3#2) :
    ∃ t, exec .ertn s = .next t ∧ s.returnFromException = .ok t := by
  have h1 : s.pplv ≠ 1#2 := by rcases hpplv with h | h <;> rw [h] <;> decide
  have h2 : s.pplv ≠ 2#2 := by rcases hpplv with h | h <;> rw [h] <;> decide
  have hreturn := State.returnFromException_eq_ok.mpr ⟨h1, h2, rfl⟩
  refine ⟨_, ?_, hreturn⟩
  show execErtn s = _
  rw [execErtn, State.complete_kernelOnly hplv, hreturn, State.complete_ok]

/-- Settles O22: CRMD gets the mode of PRMD and, after a refill, DA 0 and PG 1. -/
theorem returnFromExceptionResult : Obligations.ReturnFromExceptionResult := by
  intro s hplv hpplv
  obtain ⟨t, hexec, hreturn⟩ := exec_ertn hplv hpplv
  obtain ⟨-, -, rfl⟩ := State.returnFromException_eq_ok.mp hreturn
  obtain ⟨hmode, hie, hda, hpg, hcrmd⟩ := crmd_fields (w := s.csr.crmd) (mode := s.csr.prmd.extractLsb' 0 3)
    (c := s.ecode = 0x3F#6) (dapg := 0b10#2) rfl
  have hplv' : (s.csr.prmd.extractLsb' 0 3).extractLsb' 0 2 = s.pplv := BitVec.extractLsb'_extractLsb'_of_le (by decide)
  have hie' : (s.csr.prmd.extractLsb' 0 3).getLsbD 2 = s.csr.prmd.getLsbD 2 := by simp
  have hll : (s.llbit && s.csr.klo) = if s.csr.klo then s.llbit else false := by cases s.csr.klo <;> simp
  exact ⟨_, hexec, rfl, hmode.trans hplv', hie.trans hie', hda, hpg, hcrmd, hll, rfl, rfl, rfl⟩

/-! ### Privileged instructions in user mode -/

/-- At any level but PLV 0 what checks the level first ends in the trap entry of IPE (R460). -/
theorem traps_kernelOnly {s : State} (hplv : s.plv ≠ 0#2) (f : Unit → Res State) :
    Traps s (s.complete (s.kernelOnly.bind f)) .ipe 0#32 := by
  rw [Traps, State.kernelOnly_raise hplv, Res.raise_bind, State.complete_raise]

/-- Settles O26: each of the eleven checks the level first. -/
theorem privilegedInUserModeTraps : Obligations.PrivilegedInUserModeTraps := by
  intro s rd rj rk csr code si12 level hplv
  simp only [privilegedInstructions, List.forall_mem_cons, List.not_mem_nil, false_imp_iff, implies_true, and_true]
  and_intros <;> exact traps_kernelOnly hplv _

/-! ### CSR reads -/

/-- The bits of a Boolean as a word (R205). -/
theorem getLsbD_boolWord (b : Bool) (i : Nat) : (boolWord b).getLsbD i = (decide (i = 0) && b) := by
  cases b <;> simp [boolWord, BitVec.getLsbD_one]

/-- A Boolean in bit k of a word. -/
theorem getLsbD_boolWord_shiftLeft (b : Bool) (k : Nat) {i : Nat} (hi : i < 32) :
    (boolWord b <<< k).getLsbD i = (decide (i = k) && b) := by
  have hk : (!decide (i < k) && decide (i - k = 0)) = decide (i = k) := by
    rw [← decide_not, ← Bool.decide_and]
    exact decide_eq_decide.mpr (by omega)
  rw [BitVec.getLsbD_shiftLeft, getLsbD_boolWord, decide_eq_true hi, Bool.true_and, ← Bool.and_assoc, hk]

/-- The eight hardware lines in bits 9:2 (R48). -/
theorem getLsbD_hwi_shiftLeft (hwi : BitVec 8) {i : Nat} (hi : i < 32) :
    (hwi.setWidth 32 <<< 2).getLsbD i = (decide (2 ≤ i ∧ i ≤ 9) && hwi.getLsbD (i - 2)) := by
  rw [BitVec.getLsbD_shiftLeft, BitVec.getLsbD_setWidth]
  by_cases h : 2 ≤ i ∧ i ≤ 9
  · simp [hi, h, show ¬ i < 2 by omega]
    omega
  · by_cases h2 : i < 2
    · simp [h, h2]
    · simp [h, BitVec.getLsbD_of_ge hwi (i - 2) (by omega)]

/-- The bits of ESTAT as it reads: stored ones, HWI in 9:2, IPI in 12 (R48). -/
theorem State.getLsbD_estatRead (s : State) {i : Nat} (hi : i < 32) : s.estatRead.getLsbD i =
    (s.csr.estat.getLsbD i || (decide (2 ≤ i ∧ i ≤ 9) && s.hwi.getLsbD (i - 2)) || (decide (i = 12) && s.ipi)) := by
  rw [State.estatRead, BitVec.getLsbD_or, BitVec.getLsbD_or, getLsbD_hwi_shiftLeft _ hi, getLsbD_boolWord_shiftLeft _ _ hi]

/-- CSRRD at PLV 0 (R461). -/
theorem exec_csrrd {s : State} (hplv : s.plv = 0#2) (rd : GReg) (n : CsrNum) :
    SetsReg s (exec (.csrrd rd n) s) rd (s.csrRead n) := by
  refine ⟨_, ?_, s.wroteReg_setReg rd _⟩
  show execCsrrd rd n s = _
  rw [execCsrrd, State.complete_kernelOnly hplv, State.complete_ok]

/-- Settles O27: the numbers of the table read as their CSR does, the others as 0. -/
theorem csrReadValues : Obligations.CsrReadValues := by
  intro s
  refine ⟨fun rd n hplv => exec_csrrd hplv rd n, rfl, rfl, rfl, rfl, rfl, rfl, rfl, rfl, rfl, rfl, rfl, rfl, rfl, rfl, rfl,
    rfl, rfl, rfl, rfl, rfl, rfl, rfl, rfl, ?estat, rfl, ?pgd, ?cpuid, rfl, rfl, ?llbctl, ?absent⟩
  case estat => exact fun i hi => s.getLsbD_estatRead hi
  case pgd =>
    simp only [← getLsbD_top_iff]
    rfl
  case cpuid =>
    rw [BitVec.ofNat_toNat]
    rfl
  case llbctl =>
    intro i hi
    show (boolWord s.llbit ||| boolWord s.csr.klo <<< 2).getLsbD i = _
    rw [BitVec.getLsbD_or, getLsbD_boolWord, getLsbD_boolWord_shiftLeft _ _ hi]
  case absent =>
    intro n hn
    rw [State.csrRead, csrOfNum_eq_none hn]

/-! ### Cache operations -/

/-- An indexed CACOP at PLV 0 advances, whatever its address (R470). -/
theorem exec_cacop_indexed {s : State} (hplv : s.plv = 0#2) {code : BitVec 5} (hop : code.toNat / 8 ≤ 1)
    (hcache : code.toNat % 8 ≤ 2) (rj : GReg) (si12 : BitVec 12) : exec (.cacop code rj si12) s = .next s.advance := by
  have hhigh : ∀ v : BitVec 2, 2 ≤ v.toNat → code.extractLsb' 3 2 ≠ v := by
    intro v hv heq
    rw [extractLsb'_eq_iff] at heq
    omega
  have hlow : (code.extractLsb' 0 3).toNat = code.toNat % 8 := by rw [BitVec.extractLsb'_toNat, Nat.shiftRight_zero]
  have hdefined : ¬ (code.extractLsb' 3 2 = 3#2 ∨ 2 < (code.extractLsb' 0 3).toNat) := by
    rw [hlow]
    exact not_or.mpr ⟨hhigh 3#2 (by decide), by omega⟩
  show execCacop code rj si12 s = _
  rw [execCacop, State.complete_kernelOnly hplv, if_neg hdefined, if_neg (hhigh 2#2 (by decide)), State.complete_ok]

/-- Settles O30, by code[4:3]: an indexed operation only advances, a lookup does so when its address translates. -/
theorem cacheOperationsOnlyAdvance : Obligations.CacheOperationsOnlyAdvance := by
  intro s code rj si12 hplv hcache
  refine ⟨fun hop => ⟨_, exec_cacop_indexed hplv hop hcache rj si12, s.wentTo_advance⟩, fun hop pm htrans => ?_⟩
  have hlookup : code.extractLsb' 3 2 = 2#2 := (extractLsb'_eq_iff code 3 2 2#2).mpr (show _ = 2 by omega)
  refine ⟨_, ?_, s.wentTo_advance⟩
  rw [exec_cacop_lookup hplv hlookup hcache, s.effAddr_eq_ofInt, htrans, Res.ok_bind, State.complete_ok]

/-! ### Interrupts and IDLE -/

/-- No source is pending and enabled when no bit below 13 is set in both ESTAT.IS and ECFG.LIE (R520). -/
theorem State.pending_ne_zero_iff {s : State} :
    s.pending ≠ 0#13 ↔ ∃ i < 13, (s.readCsr .estat).getLsbD i = true ∧ s.csr.ecfg.getLsbD i = true := by
  have hbit : ∀ i < 13, s.pending.getLsbD i = ((s.readCsr .estat).getLsbD i && s.csr.ecfg.getLsbD i) := fun i hi => by
    simp [State.pending, State.readCsr, hi]
  constructor
  · intro hne
    by_contra hnone
    refine hne (BitVec.eq_of_getLsbD_eq fun i hi => ?_)
    rw [hbit i hi, BitVec.getLsbD_zero, ← Bool.not_eq_true, Bool.and_eq_true]
    exact fun h => hnone ⟨i, hi, h⟩
  · rintro ⟨i, hi, hset⟩ hzero
    have hnot := hbit i hi
    rw [hzero, BitVec.getLsbD_zero, Bool.and_eq_true_iff.mpr hset] at hnot
    cases hnot

/-- IDLE at PLV 0 (R491). -/
theorem exec_idle {s : State} (hplv : s.plv = 0#2) (level : BitVec 15) :
    GoesTo { s with idle := decide (s.pending = 0#13) } (exec (.idle level) s) (s.pc + 4#32) := by
  refine ⟨_, ?_, State.wentTo_advance _⟩
  show execIdle level s = _
  rw [execIdle, State.complete_kernelOnly hplv, State.complete_ok]
  rfl

/-- A waiting core with no source pending stays as it is (R491). -/
theorem State.boundary_of_waiting {s : State} (hidle : s.idle = true) (hnone : s.pending = 0#13) : s.boundary = .next s :=
  if_pos ⟨hidle, hnone⟩

/-- With a source pending the core wakes; CRMD.IE decides between the interrupt and the next instruction (R520, R555). -/
theorem State.boundary_of_pending {s : State} (hpending : s.pending ≠ 0#13) : s.boundary =
    if s.ie then .next ({ s with idle := false }.trapEntry .int 0#32) else { s with idle := false }.fetchAndRun := by
  have hwake : ({ s with idle := false }.ie = true ∧ { s with idle := false }.pending ≠ 0#13) ↔ s.ie = true :=
    and_iff_left hpending
  simp only [State.boundary, hpending, and_false, if_false, hwake]

/-- Settles O23, by whether a source is pending. -/
theorem interruptsAndTheWaitOfIdle : Obligations.InterruptsAndTheWaitOfIdle := by
  unfold Obligations.InterruptsAndTheWaitOfIdle
  intro pendingIn
  have hpending : ∀ {u : State}, pendingIn u ↔ u.pending ≠ 0#13 := State.pending_ne_zero_iff.symm
  simp only [hpending, not_not]
  refine ⟨fun s level hplv => ⟨fun h => ?_, fun h => ?_⟩, fun s henv => ?_,
    fun s => ⟨fun hidle h => State.boundary_of_waiting hidle h, fun h hie => ?_, fun h hie => ?_, fun hidle h => ?_⟩⟩
  · rw [← decide_eq_true h]
    exact exec_idle hplv level
  · rw [← decide_eq_false h]
    exact exec_idle hplv level
  · rw [State.input, henv]
  · exact (State.boundary_of_pending h).trans (if_pos hie)
  · exact (State.boundary_of_pending h).trans (if_neg (ne_true_of_eq_false hie))
  · exact State.boundary_of_awake hidle (.inr h)

end Sys2Proof.Machine

/-! ### The TLB instructions -/

namespace Sys2Proof.Machine

/-! ## Search -/

/-- The indices of a search are those of the library's search of a list. -/
theorem tlbIndices_eq_findIdxs (p : TlbEntry → Bool) (l : List TlbEntry) (k : Nat) : tlbIndices p l k = l.findIdxs p k := by
  induction l generalizing k with
  | nil => rfl
  | cons t ts ih => rw [tlbIndices, ih, List.findIdxs_cons]

/-- A search finds an index exactly where an entry matches (R480). -/
theorem State.mem_tlbSearch {s : State} {i : Nat} : i ∈ s.tlbSearch ↔
    ∃ e, s.tlb[i]? = some e ∧ e.Matches s.asid (s.csr.tlbehi.extractLsb' 13 19) := by
  rw [State.tlbSearch, tlbIndices_eq_findIdxs, List.mem_findIdxs_iff_exists_getElem_pos]
  simp only [TlbEntry.hits_iff, List.getElem?_eq_some_iff]
  constructor
  · rintro ⟨hi, hmatch⟩
    exact ⟨_, ⟨hi, rfl⟩, hmatch⟩
  · rintro ⟨_, ⟨hi, rfl⟩, hmatch⟩
    exact ⟨hi, hmatch⟩

/-- It finds no index twice. -/
theorem State.nodup_tlbSearch (s : State) : s.tlbSearch.Nodup := by
  rw [State.tlbSearch, tlbIndices_eq_findIdxs]
  exact List.nodup_findIdxs

/-- TLBSRCH at PLV 0 with no match sets NE (R480). -/
theorem exec_tlbsrch_of_none {s : State} (hplv : s.plv = 0#2) (h : s.tlbSearch = []) :
    exec .tlbsrch s = .next { s with csr := { s.csr with tlbidx := setField s.csr.tlbidx 31 1#1 } }.advance := by
  show execTlbsrch s = _
  rw [execTlbsrch, State.complete_kernelOnly hplv, h, State.complete_ok]

/-- TLBIDX with a new Index of `bits` bits and NE clear (R480). -/
def withIndex (tlbidx : Word) (bits i : Nat) : Word := (tlbidx &&& ~~~(lowMask bits ||| 0x80000000#32)) ||| BitVec.ofNat 32 i

/-- With one match it writes the index and clears NE (R480). -/
theorem exec_tlbsrch_of_one {s : State} (hplv : s.plv = 0#2) {i : Nat} (h : s.tlbSearch = [i]) :
    exec .tlbsrch s = .next { s with csr := { s.csr with tlbidx := withIndex s.csr.tlbidx s.indexBits i } }.advance := by
  show execTlbsrch s = _
  rw [execTlbsrch, State.complete_kernelOnly hplv, h, State.complete_ok, withIndex]

/-- With several it is refused (U13). -/
theorem exec_tlbsrch_of_many {s : State} (hplv : s.plv = 0#2) {i j : Nat} (hi : i ∈ s.tlbSearch) (hj : j ∈ s.tlbSearch)
    (hij : i ≠ j) : exec .tlbsrch s = .refused .tlbMultipleHit := by
  refine State.kernel_refused hplv ?_
  split
  · next h => rw [h] at hi; cases hi
  · next k h =>
    rw [h, List.mem_singleton] at hi hj
    exact absurd (hi.trans hj.symm) hij
  · rfl

/-- The bits of TLBIDX with a new index: those of the index, and above them the old ones but for NE (R52). -/
theorem getLsbD_withIndex (w : Word) {bits i k : Nat} (hbits : bits ≤ 16) (hi : i < 2 ^ bits) (hk : k < 32) :
    (withIndex w bits i).getLsbD k = if k < bits then i.testBit k else (w.getLsbD k && !decide (k = 31)) := by
  have hne : ∀ k < 32, (0x80000000#32).getLsbD k = decide (k = 31) := by decide
  rw [withIndex, BitVec.getLsbD_or, BitVec.getLsbD_and, BitVec.getLsbD_not, BitVec.getLsbD_or, getLsbD_lowMask (by omega),
    hne k hk, BitVec.getLsbD_ofNat]
  by_cases hlt : k < bits
  · simp [hlt, hk]
  · have hzero : i.testBit k = false :=
      Nat.testBit_lt_two_pow (hi.trans_le (Nat.pow_le_pow_right (by decide) (Nat.le_of_not_lt hlt)))
    simp [hlt, hk, hzero]

/-- The new index is read back. -/
theorem withIndex_mod (w : Word) {bits i : Nat} (hbits : bits ≤ 16) (hi : i < 2 ^ bits) :
    (withIndex w bits i).toNat % 2 ^ bits = i := by
  refine Nat.eq_of_testBit_eq fun k => ?_
  rw [Nat.testBit_mod_two_pow, BitVec.testBit_toNat]
  by_cases hlt : k < bits
  · rw [getLsbD_withIndex w hbits hi (by omega), if_pos hlt, decide_eq_true hlt, Bool.true_and]
  · rw [decide_eq_false hlt, Bool.false_and]
    exact (Nat.testBit_lt_two_pow (hi.trans_le (Nat.pow_le_pow_right (by decide) (Nat.le_of_not_lt hlt)))).symm

/-- Settles O31, by how many entries match. -/
theorem tlbSearchResult : Obligations.TlbSearchResult := by
  intro s hplv hcount found
  have hmem : ∀ {i}, i ∈ s.tlbSearch ↔ found i := State.mem_tlbSearch
  refine ⟨fun i hi huniq => ?one, fun hnone => ?none, fun i j hi hj hij => ?many⟩
  case one =>
    have hsearch : s.tlbSearch = [i] := by
      refine List.perm_singleton.mp ((List.perm_ext_iff_of_nodup s.nodup_tlbSearch (List.nodup_singleton i)).mpr fun j => ?_)
      rw [hmem, List.mem_singleton]
      exact ⟨huniq j, fun h => h ▸ hi⟩
    have hbits : s.indexBits ≤ 16 := ceilLog2_le _
    have hindex : i < 2 ^ s.indexBits := by
      obtain ⟨e, he, -⟩ := hi
      exact (List.getElem?_eq_some_iff.mp he).1.trans_le (le_two_pow_ceilLog2 hcount)
    refine ⟨_, ⟨_, exec_tlbsrch_of_one hplv hsearch, State.wentTo_advance _⟩, withIndex_mod _ hbits hindex, ?_,
      fun k hk hle => ?_⟩
    · rw [getLsbD_withIndex _ hbits hindex (by decide), if_neg (by omega)]
      simp
    · rw [getLsbD_withIndex _ hbits hindex (by omega), if_neg (by omega), decide_eq_false (by omega), Bool.not_false,
        Bool.and_true]
  case none =>
    have hsearch : s.tlbSearch = [] := List.eq_nil_iff_forall_not_mem.mpr fun i h => hnone i (hmem.mp h)
    refine ⟨_, ⟨_, exec_tlbsrch_of_none hplv hsearch, State.wentTo_advance _⟩, ?_, fun k hk => ?_⟩
    · rw [getLsbD_setField _ _ _ (by decide), if_pos (by decide)]
      rfl
    · rw [getLsbD_setField _ _ _ (by omega), if_neg (by omega)]
  case many => exact exec_tlbsrch_of_many hplv (hmem.mpr hi) (hmem.mpr hj) hij

/-! ## Entries as the CSRs show them -/

/-- A mask of the low bits, the whole word included. -/
theorem getLsbD_lowMask_of_le {k i : Nat} (hk : k ≤ 32) : (lowMask k).getLsbD i = decide (i < k) := by
  rcases hk.lt_or_eq with hlt | rfl
  · exact getLsbD_lowMask hlt
  · have hall : lowMask 32 = BitVec.allOnes 32 := by decide
    rw [hall, BitVec.getLsbD_allOnes]

/-- The bits of TLBELO0 and TLBELO1 that are fields: all below PALEN-4 but bit 7 (R54). -/
theorem State.getLsbD_pageBits (s : State) {i : Nat} (hi : i < 32) :
    s.pageBits.getLsbD i = (decide (i < s.plat.palen - 4) && !decide (i = 7)) := by
  have hbit7 : ∀ i < 32, (0xFFFFFF7F#32).getLsbD i = !decide (i = 7) := by decide
  have hpalen : s.plat.palen - 4 ≤ 32 := by
    have := s.plat.palenOver32.isLt
    unfold Platform.palen; omega
  rw [State.pageBits, BitVec.getLsbD_and, getLsbD_lowMask_of_le hpalen, hbit7 i hi]

/-- The bits of a page shown from bit 8 upward are those of its PPN (R54). -/
theorem TlbPage.getLsbD_toWord_ppn (p : TlbPage) (g : Bool) (j : Nat) : (p.toWord g).getLsbD (j + 8) = p.ppn.getLsbD j := by
  simp only [TlbPage.toWord, BitVec.getLsbD_append]
  simp

/-- The masked word of a page shows it (R54, R481). -/
theorem State.showsPage_toWord (s : State) (p : TlbPage) (g : Bool) :
    ShowsPage (p.toWord g &&& s.pageBits) s.plat.palen p g := by
  have hpalen : 32 ≤ s.plat.palen := Nat.le_add_right _ _
  have hlow : ∀ i < 7, (p.toWord g &&& s.pageBits).getLsbD i = (p.toWord g).getLsbD i := fun i hi => by
    rw [BitVec.getLsbD_and, s.getLsbD_pageBits (by omega), decide_eq_true (by omega), decide_eq_false (by omega),
      Bool.not_false, Bool.and_true, Bool.and_true]
  refine ⟨?v, ?d, ?plv, ?mat, ?g, ?ppn, ?reserved⟩
  case v | d | g =>
    rw [hlow _ (by decide), TlbPage.toWord]
    simp only [BitVec.getLsbD_append]
    simp
  case plv | mat =>
    apply BitVec.eq_of_getLsbD_eq
    intro i hi
    rw [BitVec.getLsbD_extractLsb', hlow _ (by omega), decide_eq_true hi, Bool.true_and]
    rw [TlbPage.toWord]
    simp only [BitVec.getLsbD_append]
    obtain rfl | rfl : i = 0 ∨ i = 1 := by omega
    all_goals simp
  case ppn =>
    refine Nat.eq_of_testBit_eq fun j => ?_
    rw [Nat.testBit_div_two_pow, Nat.testBit_mod_two_pow, BitVec.testBit_toNat, BitVec.testBit_toNat, BitVec.getLsbD_and,
      p.getLsbD_toWord_ppn, Bool.and_comm]
    by_cases hj : j < 24
    · rw [s.getLsbD_pageBits (by omega), decide_eq_false (show ¬ j + 8 = 7 by omega), Bool.not_false, Bool.and_true]
      congr 2
      exact propext (by omega)
    · rw [BitVec.getLsbD_of_ge p.ppn j (by omega), Bool.and_false, Bool.and_false]
  case reserved =>
    rw [BitVec.getLsbD_and, s.getLsbD_pageBits (by decide)]
    simp

/-- TLBRD at PLV 0 shows the entry at the index (R481). -/
theorem exec_tlbrd {s : State} (hplv : s.plv = 0#2) {e : TlbEntry} (h : s.tlb[s.tlbIndex]? = some e) :
    exec .tlbrd s = .next (s.showTlbEntry e).advance := by
  show execTlbrd s = _
  rw [execTlbrd, State.complete_kernelOnly hplv, h, State.complete_ok]

/-- Settles O32, by E of the entry: each CSR written is the shown field, and the rest of TLBIDX and ASID is kept. -/
theorem tlbReadResult : Obligations.TlbReadResult := by
  intro s e hplv hentry
  refine ⟨_, _, _, _, _, ⟨_, exec_tlbrd hplv hentry, State.wentTo_advance _⟩, fun he => ?valid, fun he => ?invalid, ?idx,
    setField_and_of_clear _ _ _ _ (by decide)⟩
  case valid =>
    simp only [he, if_true]
    refine ⟨?_, s.showsPage_toWord e.lo0 e.g, s.showsPage_toWord e.lo1 e.g, ?_, ?_, ?_⟩
    · rw [BitVec.toNat_append, BitVec.toNat_zero, Nat.or_zero, Nat.shiftLeft_eq]
    · exact (extractLsb'_setField_apart _ _ (by decide) (by decide)).trans (extractLsb'_setField_same _ _ (by decide))
    · rw [getLsbD_setField _ _ _ (by decide), if_pos (by decide)]
      rfl
    · exact extractLsb'_setField_same _ _ (by decide)
  case invalid =>
    simp only [he, Bool.false_eq_true, if_false]
    refine ⟨trivial, trivial, trivial, ?_, ?_, ?_⟩
    · exact (extractLsb'_setField_apart _ _ (by decide) (by decide)).trans (extractLsb'_setField_same _ _ (by decide))
    · rw [getLsbD_setField _ _ _ (by decide), if_pos (by decide)]
      rfl
    · exact extractLsb'_setField_same _ _ (by decide)
  case idx => exact (setField_and_of_clear _ _ _ _ (by decide)).trans (setField_and_of_clear _ _ _ _ (by decide))

/-! ## Writing an entry -/

/-- A page that a word shows, with a PPN that fits, is the page the word describes (R54, R484). -/
theorem ShowsPage.eq_ofWord {w : Word} {palen : Nat} {p : TlbPage} {g : Bool} (h : ShowsPage w palen p g)
    (hppn : p.ppn.toNat < 2 ^ (palen - 12)) : p = TlbPage.ofWord w := by
  have hnumber : p.ppn = w.extractLsb' 8 24 := by
    refine ((extractLsb'_eq_iff w 8 24 p.ppn).mpr ?_).symm
    rw [h.ppn, Nat.mod_eq_of_lt hppn, Nat.mod_eq_of_lt p.ppn.isLt]
  obtain ⟨v, d, plv, mat, ppn⟩ := p
  rw [TlbPage.ofWord, h.v, h.d, h.plv, h.mat, ← hnumber]

/-- Bits 31:13 of a word are its quotient by 2^13 (R53). -/
theorem toNat_extractLsb'_vppn (w : Word) : (w.extractLsb' 13 19).toNat = w.toNat / 2 ^ 13 := by
  have := w.isLt
  rw [BitVec.extractLsb'_toNat, Nat.shiftRight_eq_div_pow, Nat.mod_eq_of_lt (by omega)]

/-- TLBWR at PLV 0 with an entry that may be written (R482). -/
theorem exec_tlbwr {s : State} (hplv : s.plv = 0#2) (hi : s.tlbIndex < s.tlb.length) {e : TlbEntry}
    (h : s.checkedTlbEntry = .ok e) : exec .tlbwr s = .next { s with tlb := s.tlb.set s.tlbIndex e }.advance := by
  show execTlbwr s = _
  rw [execTlbwr, State.complete_kernelOnly hplv, if_pos hi, h, Res.ok_bind, State.complete_ok]

/-- TLBFILL at PLV 0 with an entry that may be written (R483). -/
theorem exec_tlbfill {s : State} (hplv : s.plv = 0#2) {e : TlbEntry} (h : s.checkedTlbEntry = .ok e) : exec .tlbfill s =
    .next { s with tlb := s.tlb.set (Config.freeFillIndex s.draws % s.tlb.length) e, draws := s.draws + 1 }.advance := by
  show execTlbfill s = _
  rw [execTlbfill, State.complete_kernelOnly hplv, h, Res.ok_bind, State.complete_ok]

/-- Settles O33: the entry the statement describes is the one the CSRs do, and it may be written. -/
theorem tlbWriteAndFillResult : Obligations.TlbWriteAndFillResult := by
  intro s e hplv he hvppn hps hasid hg hlo0 hlo1 hppn0 hppn1 hlegal
  have hnew : e = s.newTlbEntry := by
    have hvalid : e.e = s.newTlbEntry.e := Bool.eq_iff_iff.mpr (he.trans State.newTlbEntry_valid_iff.symm)
    have hvppn' : e.vppn = s.csr.tlbehi.extractLsb' 13 19 :=
      BitVec.eq_of_toNat_eq (hvppn.trans (toNat_extractLsb'_vppn _).symm)
    have hpage0 : e.lo0 = s.newTlbEntry.lo0 := hlo0.eq_ofWord hppn0
    have hpage1 : e.lo1 = s.newTlbEntry.lo1 := hlo1.eq_ofWord hppn1
    calc e = ⟨e.e, e.asid, e.g, e.ps, e.vppn, e.lo0, e.lo1⟩ := rfl
      _ = s.newTlbEntry := by
        rw [hvalid, hvppn', hps, hasid, hg, hpage0, hpage1]
        rfl
  have hchecked : s.checkedTlbEntry = .ok e :=
    State.checkedTlbEntry_eq_ok.mpr ⟨hnew, fun h => State.pageSizeLegal_iff.mpr (hlegal h)⟩
  constructor
  · rintro i rfl hi
    exact ⟨_, exec_tlbwr hplv hi hchecked, State.wentTo_advance _⟩
  · intro hsome
    exact ⟨_, Nat.mod_lt _ hsome, _, exec_tlbfill hplv hchecked, State.wentTo_advance _⟩

/-! ## Invalidation -/

/-- A match of page-pair numbers said with division (R92). -/
theorem TlbEntry.vppnMatches_iff {t : TlbEntry} {vppn : BitVec 19} : t.vppnMatches vppn = true ↔
    t.vppn.toNat / 2 ^ (t.ps.toNat - 12) = vppn.toNat / 2 ^ (t.ps.toNat - 12) := by
  rw [TlbEntry.vppnMatches, beq_iff_eq, ← BitVec.toNat_inj, BitVec.toNat_ushiftRight, BitVec.toNat_ushiftRight,
    Nat.shiftRight_eq_div_pow, Nat.shiftRight_eq_div_pow]

/-- The entries INVTLB selects are those of the table of R485. -/
theorem TlbEntry.invSelected_iff {t : TlbEntry} {op : BitVec 5} {asid : BitVec 10} {va : Word} :
    t.invSelected op asid va = true ↔ t.Selected op asid va := by
  simp only [TlbEntry.Selected, ← BitVec.toNat_inj, BitVec.toNat_ofNat, ← toNat_extractLsb'_vppn]
  unfold TlbEntry.invSelected
  split <;> simp_all [TlbEntry.vppnMatches_iff, and_assoc, ← BitVec.toNat_inj]

/-- INVTLB at PLV 0 with an op above 6 (R485). -/
theorem exec_invtlb_reserved {s : State} (hplv : s.plv = 0#2) {op : BitVec 5} (hop : 7 ≤ op.toNat) (rj rk : GReg) :
    Traps s (exec (.invtlb op rj rk) s) .ine 0#32 := by
  show execInvtlb op rj rk s = _
  rw [execInvtlb, State.complete_kernelOnly hplv, if_pos (show 6 < op.toNat from hop), State.complete_raise]

/-- INVTLB at PLV 0 with an op of the table and, where it takes one, a register that holds an ASID (R485). -/
theorem exec_invtlb {s : State} (hplv : s.plv = 0#2) {op : BitVec 5} (hop : op.toNat ≤ 6) {rj : GReg}
    (hasid : 4 ≤ op.toNat → (s.reg rj).toNat < 2 ^ 10) (rk : GReg) : exec (.invtlb op rj rk) s =
      .next { s with tlb := s.tlb.map fun t : TlbEntry =>
        if t.invSelected op ((s.reg rj).extractLsb' 0 10) (s.reg rk) then { t with e := false } else t }.advance := by
  have hclear : ¬ (4 ≤ op.toNat ∧ (s.reg rj).extractLsb' 10 22 ≠ 0#22) := by
    rintro ⟨h4, hne⟩
    refine hne ((extractLsb'_eq_iff _ 10 22 0#22).mpr ?_)
    rw [Nat.div_eq_of_lt (hasid h4)]
    rfl
  show execInvtlb op rj rk s = _
  rw [execInvtlb, State.complete_kernelOnly hplv, if_neg (Nat.not_lt.mpr hop), if_neg hclear, State.complete_ok]

/-- Settles O34: entry by entry, what the map does to one that is selected and to one that is not. -/
theorem tlbInvalidateResult : Obligations.TlbInvalidateResult := by
  intro s op rj rk hplv
  refine ⟨fun hop hasid => ⟨_, ⟨_, exec_invtlb hplv hop hasid rk, State.wentTo_advance _⟩, List.length_map _,
    fun i e he => ⟨fun hsel => ?_, fun hsel => ?_⟩⟩, fun hop => exec_invtlb_reserved hplv hop rj rk⟩
  · rw [List.getElem?_map, he, Option.map_some, if_pos (TlbEntry.invSelected_iff.mpr hsel)]
  · rw [List.getElem?_map, he, Option.map_some, if_neg (mt TlbEntry.invSelected_iff.mp hsel)]

end Sys2Proof.Machine

/-! ### User mode is confined -/

namespace Sys2Proof.Machine

/-- The part of the state that belongs to the system: the stored CSRs, the TLB, the timer and the counter, what comes from
outside, the wait of IDLE and the platform. -/
structure SystemPart where
  csr : Csrs
  tlb : List TlbEntry
  timer : Word
  timerRunning : Bool
  stableCounter : BitVec 64
  hwi : BitVec 8
  ipi : Bool
  idle : Bool
  plat : Platform
  env : List EnvEvent

/-- The system's part of a state. -/
def State.system (s : State) : SystemPart :=
  ⟨s.csr, s.tlb, s.timer, s.timerRunning, s.stableCounter, s.hwi, s.ipi, s.idle, s.plat, s.env⟩

/-! ## The operations that leave the system alone -/

@[simp] theorem State.system_advance (s : State) : s.advance.system = s.system := rfl
@[simp] theorem State.system_setReg (s : State) (r : GReg) (v : Word) : (s.setReg r v).system = s.system := by
  simp [State.system]
@[simp] theorem State.system_setFreg (s : State) (r : FReg) (v : DWord) : (s.setFreg r v).system = s.system := rfl
@[simp] theorem State.system_setFregLow (s : State) (r : FReg) (v : Word) : (s.setFregLow r v).system = s.system := rfl
@[simp] theorem State.system_setFregHigh (s : State) (r : FReg) (v : Word) : (s.setFregHigh r v).system = s.system := rfl
@[simp] theorem State.system_setCflag (s : State) (c : CReg) (v : Bool) : (s.setCflag c v).system = s.system := rfl
@[simp] theorem State.system_setFpCause (s : State) (e : FpFlags) : (s.setFpCause e).system = s.system := rfl
@[simp] theorem State.system_addFpFlags (s : State) (e : FpFlags) : (s.addFpFlags e).system = s.system := rfl
@[simp] theorem State.system_writeMem (s : State) (pa n : Nat) (v : BitVec (8 * n)) :
    (s.writeMem pa n v).system = s.system := rfl

@[simp] theorem State.system_branchIf {n : Nat} (s : State) (taken : Bool) (offs : BitVec n) :
    (s.branchIf taken offs).system = s.system := by
  unfold State.branchIf
  split <;> rfl

@[simp] theorem State.system_divResult (s : State) (rd : GReg) (divisor result : Word) :
    (s.divResult rd divisor result).system = s.system := by
  unfold State.divResult
  split
  · exact State.system_setReg _ _ _
  · exact s.system_setReg _ _

@[simp] theorem State.system_readFcsr (s : State) (n : BitVec 5) : (s.readFcsr n).2.system = s.system := by
  unfold State.readFcsr
  split <;> rfl

@[simp] theorem State.system_writeFcsr (s : State) (n : BitVec 5) (v : Word) : (s.writeFcsr n v).system = s.system := by
  unfold State.writeFcsr
  split <;> rfl

/-! ## Endings that leave it alone but for a trap -/

/-- A next state has the system's part of `s`, or that of a trap entry from `s`, at the handler's pc. -/
def Confines (s : State) (o : Ending) : Prop :=
  ∀ t, o = .next t → t.system = s.system ∨ ∃ e va, t.system = (s.trapEntry e va).system ∧ t.pc = (s.trapEntry e va).pc

/-- A value of the operation has the system's part of `s`. -/
def LeavesSystem (s : State) (r : Res State) : Prop := ∀ t, r = .ok t → t.system = s.system

theorem confines_next {s t : State} (h : t.system = s.system := by simp) : Confines s (.next t) := by
  rintro _ ⟨⟩
  exact .inl h

theorem confines_trap (s : State) (e : Exc) (va : Word) : Confines s (.next (s.trapEntry e va)) := by
  rintro _ ⟨⟩
  exact .inr ⟨e, va, rfl, rfl⟩

theorem leavesSystem_ok {s t : State} (h : t.system = s.system := by simp) : LeavesSystem s (.ok t) := by
  rintro _ ⟨⟩
  exact h

/-- A sequence leaves the system alone when its second part does after every value of the first. -/
theorem leavesSystem_bind {α : Type} {s : State} {r : Res α} {f : α → Res State}
    (h : ∀ a, r = .ok a → LeavesSystem s (f a)) : LeavesSystem s (r.bind f) := by
  intro t ht
  obtain ⟨a, ha, hf⟩ := Res.bind_eq_ok.mp ht
  exact h a ha t hf

/-- What an instruction raises is a trap entry, so its value decides (R12, R530). -/
theorem confines_complete {s : State} {r : Res State} (h : LeavesSystem s r) : Confines s (s.complete r) := by
  intro t ht
  rcases State.complete_eq_next.mp ht with hok | ⟨e, va, -, rfl⟩
  · exact .inl (h t hok)
  · exact confines_trap s e va _ rfl

/-- What checks EUEN.FPE first is confined when the rest of it is. -/
theorem confines_fpOnly {s : State} {r : Res State} (h : LeavesSystem s r) :
    Confines s (s.complete (s.fpOnly.bind fun _ => r)) :=
  confines_complete (leavesSystem_bind fun _ _ => h)

/-- A move of the floating-point unit is confined when its write is. -/
theorem confines_fpMove {s t : State} (h : t.system = s.system := by simp) :
    Confines s (s.complete (s.fpOnly.bind fun _ => .ok t)) :=
  confines_fpOnly (leavesSystem_ok h)

/-- What checks the level first only traps in user mode (R460). -/
theorem confines_kernelOnly {s : State} (hplv : s.plv = 3#2) (f : Unit → Res State) :
    Confines s (s.complete (s.kernelOnly.bind f)) := by
  rw [traps_kernelOnly (by rw [hplv]; decide) f]
  exact confines_trap s _ _

/-- A load (R84). -/
theorem leavesSystem_load {s : State} {va : Word} {n : Nat} {f : BitVec (8 * n) → State}
    (h : ∀ v, (f v).system = s.system := by simp) : LeavesSystem s ((s.load va n).bind fun v => .ok (f v)) :=
  leavesSystem_bind fun v _ => leavesSystem_ok (h v)

/-- A store (R85). -/
theorem leavesSystem_store (s : State) (va : Word) (n : Nat) (v : BitVec (8 * n)) :
    LeavesSystem s ((s.store va n v).bind fun t => .ok t.advance) := by
  refine leavesSystem_bind fun t ht => ?_
  obtain ⟨-, pm, -, -, rfl⟩ := State.store_eq_ok.mp ht
  exact leavesSystem_ok

/-- LL.W (R291). -/
theorem leavesSystem_loadLinked (s : State) (va : Word) (rd : GReg) :
    LeavesSystem s ((s.loadLinked va).bind fun wt => .ok (wt.2.setReg rd wt.1).advance) := by
  refine leavesSystem_bind fun wt h => ?_
  obtain ⟨-, pa, -, -, rfl⟩ := State.loadLinked_eq_ok.mp h
  exact leavesSystem_ok ((State.system_setReg _ _ _).trans rfl)

/-- SC.W (R292). -/
theorem leavesSystem_storeConditional (s : State) (va v : Word) (rd : GReg) :
    LeavesSystem s ((s.storeConditional va v).bind fun bt => .ok (bt.2.setReg rd (boolWord bt.1)).advance) := by
  refine leavesSystem_bind fun bt h => leavesSystem_ok ((State.system_setReg _ _ _).trans ?_)
  obtain ⟨-, pa, -, ⟨-, -, -, rfl⟩ | ⟨-, rfl⟩⟩ := State.storeConditional_eq_ok.mp h
  · rfl
  · rfl

/-- A commit is confined when its write to the destination leaves the system alone; FPE is taken in a state that has only
another fcsr0 (R335). -/
theorem confines_fpCommit {s : State} {e : FpFlags} {te : Bool} {w : State → State}
    (h : ∀ t : State, (w t).system = t.system := by simp) : Confines s (s.fpArith (s.fpCommit e te w)) := by
  unfold State.fpArith
  split
  · by_cases hquiet : s.NoTrap (s.fpExceptions e te)
    · rw [State.fpCommit_quiet hquiet]
      exact confines_next (by simp [h])
    · rw [State.fpCommit_trap hquiet]
      rintro _ ⟨⟩
      exact .inr ⟨.fpe, 0#32, rfl, rfl⟩
  · exact confines_trap s _ _

theorem confines_arithS (s : State) (fd : FReg) (op : FpOp) (args : List DWord) (r : FpOut) :
    Confines s (s.arithS fd op args r) := confines_fpCommit

theorem confines_arithD (s : State) (fd : FReg) (op : FpOp) (args : List DWord) (r : FpOut) :
    Confines s (s.arithD fd op args r) := confines_fpCommit

theorem confines_selectS (s : State) (fd : FReg) (op : FpOp) (args : List DWord) (r : FpOut) :
    Confines s (s.selectS fd op args r) := confines_fpCommit fun _ => rfl

theorem confines_selectD (s : State) (fd : FReg) (op : FpOp) (args : List DWord) (r : FpOut) :
    Confines s (s.selectD fd op args r) := confines_fpCommit fun _ => rfl

theorem confines_compare (s : State) (cond : BitVec 5) (cd : CReg) (a b : FpVal) :
    Confines s (s.compare cond cd a b) := confines_fpCommit

theorem confines_toInt (s : State) (fd : FReg) (rd : Rounding) (a : FpVal) (invalid : Word) :
    Confines s (s.toInt fd rd a invalid) := by
  unfold State.toInt
  split
  · exact confines_fpCommit
  · exact confines_fpCommit

/-- Every instruction in user mode, by what it ends in: a write of one register, a branch, an access to memory, the commit of
a floating-point result, or a trap entry; the privileged ones check the level first. -/
theorem confines_exec {s : State} (hplv : s.plv = 3#2) (i : Instr) : Confines s (exec i s) := by
  cases i with
  | addW | subW | addiW | lu12iW | slt | sltu | slti | sltui | pcaddu12i | mulW | mulhW | mulhWu | and | or | nor | xor
  | andi | ori | xori | sllW | srlW | sraW | slliW | srliW | sraiW | rdcntvlW | rdcntvhW | rdcntid =>
    exact confines_next (s.system_setReg _ _)
  | divW | divWu | modW | modWu => exact confines_next (s.system_divResult _ _ _)
  | beq | bne | blt | bge | bltu | bgeu => exact confines_next (s.system_branchIf _ _)
  | b | preld | dbar | ibar => exact confines_next rfl
  | bl | jirl => exact confines_next (s.system_setReg _ _)
  | ldB | ldH | ldW | ldBu | ldHu => exact confines_complete leavesSystem_load
  | stB | stH | stW => exact confines_complete (leavesSystem_store s _ _ _)
  | llW => exact confines_complete (leavesSystem_loadLinked s _ _)
  | scW => exact confines_complete (leavesSystem_storeConditional s _ _ _)
  | syscall | brk => exact confines_trap s _ _
  | faddS | fsubS | fmulS | fdivS | fmaddS | fmsubS | fnmaddS | fnmsubS | fsqrtS | frecipS | frsqrtS | fcvtSD | ffintSW =>
    exact confines_arithS s _ _ _ _
  | faddD | fsubD | fmulD | fdivD | fmaddD | fmsubD | fnmaddD | fnmsubD | fsqrtD | frecipD | frsqrtD | fcvtDS | ffintDW =>
    exact confines_arithD s _ _ _ _
  | fmaxS | fminS | fmaxaS | fminaS => exact confines_selectS s _ _ _ _
  | fmaxD | fminD | fmaxaD | fminaD => exact confines_selectD s _ _ _ _
  | fcmpCafS | fcmpSafS | fcmpCltS | fcmpSltS | fcmpCeqS | fcmpSeqS | fcmpCleS | fcmpSleS | fcmpCunS | fcmpSunS | fcmpCultS
  | fcmpSultS | fcmpCueqS | fcmpSueqS | fcmpCuleS | fcmpSuleS | fcmpCneS | fcmpSneS | fcmpCorS | fcmpSorS | fcmpCuneS
  | fcmpSuneS | fcmpCafD | fcmpSafD | fcmpCltD | fcmpSltD | fcmpCeqD | fcmpSeqD | fcmpCleD | fcmpSleD | fcmpCunD | fcmpSunD
  | fcmpCultD | fcmpSultD | fcmpCueqD | fcmpSueqD | fcmpCuleD | fcmpSuleD | fcmpCneD | fcmpSneD | fcmpCorD | fcmpSorD
  | fcmpCuneD | fcmpSuneD =>
    exact confines_compare s _ _ _ _
  | ftintWS | ftintWD | ftintrmWS | ftintrmWD | ftintrpWS | ftintrpWD | ftintrzWS | ftintrzWD | ftintrneWS | ftintrneWD =>
    exact confines_toInt s _ _ _ _
  | fabsS | fnegS | fcopysignS | fclassS | fmovS | movgr2frW | fabsD | fnegD | fcopysignD | fclassD | fmovD | fsel | movcf2fr
  | movgr2frhW | movfr2grS | movfrh2grS | movcf2gr | movgr2fcsr | movfcsr2gr | movfr2cf | movgr2cf | bceqz | bcnez =>
    exact confines_fpMove
  | fldS | fldD => exact confines_fpOnly leavesSystem_load
  | fstS | fstD => exact confines_fpOnly (leavesSystem_store s _ _ _)
  | csrrd | csrwr | csrxchg | cacop | tlbsrch | tlbrd | tlbwr | tlbfill | invtlb | ertn | idle =>
    exact confines_kernelOnly hplv _

/-- Trap entry enters at PLV 0 (R530). -/
theorem State.plv_trapEntry (s : State) (e : Exc) (va : Word) : (s.trapEntry e va).plv = 0#2 :=
  (crmd_fields (show (s.trapEntry e va).csr.crmd = _ from rfl)).1

/-- Settles O58: the system's part of the next state is that of the state before, or of a trap entry. -/
theorem userModeIsConfined : Obligations.UserModeIsConfined := by
  intro i s t hplv hexec
  rcases confines_exec hplv i t hexec with hsame | ⟨e, va, htrap, hpc⟩
  · obtain ⟨hcsr, hrest⟩ := SystemPart.mk.inj hsame
    exact ⟨.inl hcsr, hrest⟩
  · obtain ⟨hcsr, hrest⟩ := SystemPart.mk.inj htrap
    refine ⟨.inr ⟨e, va, hcsr, hpc, ?_⟩, hrest⟩
    rw [State.plv, hcsr]
    exact s.plv_trapEntry e va

end Sys2Proof.Machine

/-! ### Counting clocks and input events -/

namespace Sys2Proof.Machine

/-! ## The timer -/

/-- A stopped timer does not count (R551). -/
theorem State.timerClock_of_stopped {s : State} (h : s.timerRunning = false) : s.timerClock = s := by
  simp [State.timerClock, h]

/-- A running timer above 0 counts down. -/
theorem State.timerClock_of_pos {s : State} (h : s.timerRunning = true) (ht : s.timer ≠ 0#32) :
    s.timerClock = { s with timer := s.timer - 1#32 } := by
  rw [State.timerClock, if_pos h, if_neg ht]

/-- The state with ESTAT.IS[11] set: the timer ran out (R551). -/
def State.timerExpired (s : State) : State := { s with csr := { s.csr with estat := s.csr.estat ||| 0x800#32 } }

/-- A running timer at 0 sets ESTAT.IS[11]; a periodic one is loaded again. -/
theorem State.timerClock_of_periodic {s : State} (h : s.timerRunning = true) (ht : s.timer = 0#32)
    (hp : s.timerPeriodic = true) : s.timerClock = { s.timerExpired with timer := timerInit s.csr.tcfg } := by
  rw [State.timerClock, if_pos h, if_pos ht]
  exact if_pos hp

/-- One that is not periodic stops. -/
theorem State.timerClock_of_oneShot {s : State} (h : s.timerRunning = true) (ht : s.timer = 0#32)
    (hp : s.timerPeriodic = false) : s.timerClock = { s.timerExpired with timerRunning := false } := by
  rw [State.timerClock, if_pos h, if_pos ht]
  exact if_neg (ne_true_of_eq_false hp)

theorem State.timerClocks_of_stopped {s : State} (h : s.timerRunning = false) (k : Nat) : s.timerClocks k = s := by
  simp [State.timerClocks, h]

/-- No more clocks than the timer holds only count down. -/
theorem State.timerClocks_of_le {s : State} (h : s.timerRunning = true) {k : Nat} (hk : k ≤ s.timer.toNat) :
    s.timerClocks k = { s with timer := s.timer - BitVec.ofNat 32 k } := by
  rw [State.timerClocks, if_pos h, if_pos hk]

/-- After more than that a periodic timer is where the clocks since it first ran out leave it. -/
theorem State.timerClocks_of_periodic {s : State} (h : s.timerRunning = true) {k : Nat} (hk : ¬ k ≤ s.timer.toNat)
    (hp : s.timerPeriodic = true) : s.timerClocks k = { s.timerExpired with
      timer := timerInit s.csr.tcfg -
        BitVec.ofNat 32 ((k - s.timer.toNat - 1) % ((timerInit s.csr.tcfg).toNat + 1)) } := by
  rw [State.timerClocks, if_pos h, if_neg hk]
  exact if_pos hp

/-- One that is not periodic has stopped at 0. -/
theorem State.timerClocks_of_oneShot {s : State} (h : s.timerRunning = true) {k : Nat} (hk : ¬ k ≤ s.timer.toNat)
    (hp : s.timerPeriodic = false) : s.timerClocks k = { s.timerExpired with timer := 0#32, timerRunning := false } := by
  rw [State.timerClocks, if_pos h, if_neg hk]
  exact if_neg (ne_true_of_eq_false hp)

/-- A timer that ran out twice shows what one that ran out once does. -/
theorem State.timerExpired_idem (s : State) : s.timerExpired.timerExpired = s.timerExpired := by
  simp only [State.timerExpired, BitVec.or_assoc, BitVec.or_self]

theorem State.timerClocks_zero (s : State) : s.timerClocks 0 = s := by
  cases h : s.timerRunning with
  | false => exact State.timerClocks_of_stopped h 0
  | true => rw [State.timerClocks_of_le h (Nat.zero_le _), BitVec.sub_zero]

/-- A word that is not 0 has its number less 1 when 1 is subtracted. -/
theorem toNat_sub_one {w : Word} (h : w ≠ 0#32) : (w - 1#32).toNat = w.toNat - 1 :=
  BitVec.toNat_sub_of_le (BitVec.le_def.mpr (Nat.one_le_iff_ne_zero.mpr fun h0 => h (BitVec.eq_of_toNat_eq h0)))

/-- The first of some clocks, and then the others: while the timer is above 0. -/
theorem State.timerClocks_succ_of_pos {s : State} (h : s.timerRunning = true) (ht : s.timer ≠ 0#32) (k : Nat) :
    s.timerClocks (k + 1) = s.timerClock.timerClocks k := by
  have hpos : s.timer.toNat ≠ 0 := fun h0 => ht (BitVec.eq_of_toNat_eq h0)
  have hnext := toNat_sub_one ht
  rw [State.timerClock_of_pos h ht]
  by_cases hk : k + 1 ≤ s.timer.toNat
  · rw [State.timerClocks_of_le h hk, State.timerClocks_of_le (s := { s with timer := s.timer - 1#32 }) h
      (show k ≤ (s.timer - 1#32).toNat by omega), Nat.add_comm, BitVec.ofNat_add, sub_sub]
  · have hk' : ¬ k ≤ (s.timer - 1#32).toNat := by omega
    cases hp : s.timerPeriodic with
    | true =>
      rw [State.timerClocks_of_periodic h hk hp, State.timerClocks_of_periodic (s := { s with timer := s.timer - 1#32 }) h hk' hp]
      have hcount : k - (s.timer - 1#32).toNat - 1 = k + 1 - s.timer.toNat - 1 := by omega
      simp only [hcount, State.timerExpired]
    | false =>
      rw [State.timerClocks_of_oneShot h hk hp, State.timerClocks_of_oneShot (s := { s with timer := s.timer - 1#32 }) h hk' hp]
      rfl

/-- And from 0. -/
theorem State.timerClocks_succ_of_zero {s : State} (h : s.timerRunning = true) (ht : s.timer = 0#32) (k : Nat) :
    s.timerClocks (k + 1) = s.timerClock.timerClocks k := by
  have hk : ¬ k + 1 ≤ s.timer.toNat := by simp [ht]
  have hcount : k + 1 - s.timer.toNat - 1 = k := by simp [ht]
  cases hp : s.timerPeriodic with
  | true =>
    obtain ⟨p, hinit⟩ : ∃ p, p = timerInit s.csr.tcfg := ⟨_, rfl⟩
    rw [State.timerClocks_of_periodic h hk hp, State.timerClock_of_periodic h ht hp, hcount, ← hinit]
    by_cases hkp : k ≤ p.toNat
    · rw [State.timerClocks_of_le (s := { s.timerExpired with timer := p }) h hkp, Nat.mod_eq_of_lt (Nat.lt_succ_of_le hkp)]
    · have hmod : (k - p.toNat - 1) % (p.toNat + 1) = k % (p.toNat + 1) := by
        rw [Nat.sub_sub, ← Nat.mod_eq_sub_mod (by omega)]
      rw [State.timerClocks_of_periodic (s := { s.timerExpired with timer := p }) h hkp hp]
      show _ = { s.timerExpired.timerExpired with
        timer := timerInit s.csr.tcfg - BitVec.ofNat 32 ((k - p.toNat - 1) % ((timerInit s.csr.tcfg).toNat + 1)) }
      rw [State.timerExpired_idem, ← hinit, hmod]
  | false =>
    rw [State.timerClocks_of_oneShot h hk hp, State.timerClock_of_oneShot h ht hp,
      State.timerClocks_of_stopped (s := { s.timerExpired with timerRunning := false }) rfl, ← ht]
    rfl

/-- `k` clocks at once are `k` single ones, one after the other (R551). -/
theorem State.timerClocks_eq_iterate (k : Nat) (s : State) : s.timerClocks k = State.timerClock^[k] s := by
  induction k generalizing s with
  | zero => exact s.timerClocks_zero
  | succ k ih =>
    rw [Function.iterate_succ_apply, ← ih]
    cases h : s.timerRunning with
    | false => rw [State.timerClock_of_stopped h, State.timerClocks_of_stopped h, State.timerClocks_of_stopped h]
    | true =>
      by_cases ht : s.timer = 0#32
      · exact State.timerClocks_succ_of_zero h ht k
      · exact State.timerClocks_succ_of_pos h ht k

/-- The timer does not look at the events to come. -/
theorem State.timerClocks_withEnv (s : State) (l : List EnvEvent) (k : Nat) :
    { s with env := l }.timerClocks k = { s.timerClocks k with env := l } := by
  unfold State.timerClocks State.timerPeriodic
  dsimp only
  split_ifs <;> rfl

/-! ## Stores of the external agent -/

/-- They keep the canonical form of memory (R100). -/
theorem State.externalStore_wf {s : State} (hm : Memory.wf s.mem = true) (c : PAddr × Byte) :
    Memory.wf (s.externalStore c).mem = true := by
  unfold State.externalStore
  split
  · exact Memory.wf_setByte hm c.2 c.1.isLt
  · exact hm

theorem State.externalStores_wf {s : State} (hm : Memory.wf s.mem = true) (l : List (PAddr × Byte)) :
    Memory.wf (l.foldl State.externalStore s).mem = true := by
  induction l generalizing s with
  | nil => exact hm
  | cons c t ih => exact ih (State.externalStore_wf hm c)

/-- A byte after a store of the external agent: the byte stored where it stored to RAM, else as before (R100). -/
theorem State.byte_externalStore {s : State} (hm : Memory.wf s.mem = true) (c : PAddr × Byte) (a : Nat) :
    Memory.byte (s.externalStore c).mem a =
      if c.1.toNat = a ∧ s.plat.kindAt a = some .ram then c.2 else Memory.byte s.mem a := by
  by_cases hram : s.plat.kindAt c.1.toNat = some .ram
  · rw [State.externalStore, if_pos hram]
    refine (Memory.byte_setByte hm _ _ _).trans ?_
    by_cases ha : a = c.1.toNat
    · subst ha
      rw [if_pos rfl, if_pos ⟨rfl, hram⟩]
    · rw [if_neg ha, if_neg fun h => ha h.1.symm]
  · rw [State.externalStore, if_neg hram, if_neg]
    rintro ⟨rfl, h⟩
    exact hram h

/-- After some stores a byte of RAM holds the last value stored there, and every other byte is as before (R100). -/
theorem State.byte_externalStores {s : State} (hm : Memory.wf s.mem = true) (l : List (PAddr × Byte)) (a : Nat) :
    Memory.byte (l.foldl State.externalStore s).mem a =
      match s.plat.kindAt a, l.reverse.find? (fun c => c.1.toNat == a) with
      | some .ram, some c => c.2
      | _, _ => Memory.byte s.mem a := by
  induction l using List.reverseRecOn with
  | nil => rcases s.plat.kindAt a with _ | _ | _ <;> rfl
  | append_singleton l c ih =>
    have hplat : (l.foldl State.externalStore s).plat = s.plat := (congrArg State.plat (State.externalStores_frame l s) :)
    rw [List.foldl_concat, State.byte_externalStore (State.externalStores_wf hm l), hplat, ih, List.reverse_concat]
    by_cases ha : c.1.toNat = a
    · rw [List.find?_cons_of_pos (p := fun c : PAddr × Byte => c.1.toNat == a) (beq_iff_eq.mpr ha)]
      rcases s.plat.kindAt a with _ | _ | _ <;> simp [ha]
    · rw [List.find?_cons_of_neg (p := fun c : PAddr × Byte => c.1.toNat == a) (mt beq_iff_eq.mp ha), if_neg fun h => ha h.1]

/-- Does a store of the list reach RAM in the line of LLaddr (R293(b))? -/
def State.hitsLine (s : State) (l : List (PAddr × Byte)) : Prop :=
  ∃ c ∈ l, s.plat.kindAt c.1.toNat = some .ram ∧
    c.1.toNat / 2 ^ s.plat.cacheLineLog2 = s.llAddr.toNat / 2 ^ s.plat.cacheLineLog2

/-- Lying in one line, said with division. -/
theorem Platform.sameLine_iff {p : Platform} {a b : PAddr} :
    p.sameLine a b = true ↔ a.toNat / 2 ^ p.cacheLineLog2 = b.toNat / 2 ^ p.cacheLineLog2 := by
  rw [Platform.sameLine, beq_iff_eq, ← BitVec.toNat_inj, BitVec.toNat_ushiftRight, BitVec.toNat_ushiftRight,
    Nat.shiftRight_eq_div_pow, Nat.shiftRight_eq_div_pow]

/-- LLbit is still 1 after some stores when it was and none of them hit the line (R293(b)). -/
theorem State.llbit_externalStores (s : State) (l : List (PAddr × Byte)) :
    (l.foldl State.externalStore s).llbit = true ↔ s.llbit = true ∧ ¬ s.hitsLine l := by
  induction l generalizing s with
  | nil => simp [State.hitsLine]
  | cons c t ih =>
    have hframe := s.externalStore_frame c
    have hplat : (s.externalStore c).plat = s.plat := (congrArg State.plat hframe :)
    have haddr : (s.externalStore c).llAddr = s.llAddr := (congrArg State.llAddr hframe :)
    have hfirst : (s.externalStore c).llbit = true ↔ s.llbit = true ∧ ¬ (s.plat.kindAt c.1.toNat = some .ram ∧
        c.1.toNat / 2 ^ s.plat.cacheLineLog2 = s.llAddr.toNat / 2 ^ s.plat.cacheLineLog2) := by
      by_cases hram : s.plat.kindAt c.1.toNat = some .ram
      · rw [State.externalStore_llbit hram, Bool.and_eq_true, Bool.not_eq_true', ← Bool.not_eq_true, Platform.sameLine_iff]
        simp [hram]
      · simp [State.externalStore, hram]
    rw [List.foldl_cons, ih, hfirst, State.hitsLine, State.hitsLine, hplat, haddr, List.exists_mem_cons_iff, not_or, and_assoc]

/-! ## Input events -/

theorem State.input_of_event {s : State} {ev : EnvEvent} {rest : List EnvEvent} (h : s.env = ev :: rest) :
    s.input = { s with env := rest }.applyEvent ev := by
  rw [State.input, h]

/-- The machine after the clocks and the stores of an event. -/
def State.afterStores (s : State) (ev : EnvEvent) (rest : List EnvEvent) : State :=
  ev.stores.foldl State.externalStore { s.timerClocks ev.ticks with env := rest }

/-- It has the timer and the CSRs that the clocks left. -/
theorem State.afterStores_timer (s : State) (ev : EnvEvent) (rest : List EnvEvent) :
    (s.afterStores ev rest).timer = (s.timerClocks ev.ticks).timer ∧
      (s.afterStores ev rest).timerRunning = (s.timerClocks ev.ticks).timerRunning ∧
      (s.afterStores ev rest).csr = (s.timerClocks ev.ticks).csr := by
  have hframe := State.externalStores_frame ev.stores { s.timerClocks ev.ticks with env := rest }
  exact ⟨(congrArg State.timer hframe :), (congrArg State.timerRunning hframe :), (congrArg State.csr hframe :)⟩

/-- Nothing else of the machine differs but memory, the record of unseen stores, LLbit and the events to come. -/
theorem State.afterStores_frame (s : State) (ev : EnvEvent) (rest : List EnvEvent) :
    (s.afterStores ev rest).env = rest ∧
      { s.afterStores ev rest with
        mem := s.mem, unseen := s.unseen, llbit := s.llbit, timer := s.timer, timerRunning := s.timerRunning,
        csr := s.csr, env := s.env } = s := by
  have hstores := State.externalStores_frame ev.stores { s.timerClocks ev.ticks with env := rest }
  have hclocks := s.timerClocks_frame ev.ticks
  refine ⟨(congrArg State.env hstores :), ?_⟩
  calc _ = { s.timerClocks ev.ticks with
        mem := s.mem, unseen := s.unseen, llbit := s.llbit, timer := s.timer, timerRunning := s.timerRunning,
        csr := s.csr, env := s.env } :=
      (congrArg (fun u : State => { u with
        mem := s.mem, unseen := s.unseen, llbit := s.llbit, timer := s.timer, timerRunning := s.timerRunning,
        csr := s.csr, env := s.env }) hstores :)
    _ = s := (congrArg (fun u : State => { u with
        mem := s.mem, unseen := s.unseen, llbit := s.llbit, env := s.env }) hclocks :)

/-- Its bytes are those the stores of the event left (R100). -/
theorem State.byte_afterStores {s : State} (hm : Memory.wf s.mem = true) (ev : EnvEvent) (rest : List EnvEvent) (a : Nat) :
    Memory.byte (s.afterStores ev rest).mem a =
      match s.plat.kindAt a, ev.stores.reverse.find? (fun c => c.1.toNat == a) with
      | some .ram, some c => c.2
      | _, _ => Memory.byte s.mem a := by
  have hclocks := s.timerClocks_frame ev.ticks
  have hmem : (s.timerClocks ev.ticks).mem = s.mem := (congrArg State.mem hclocks :)
  have hplat : (s.timerClocks ev.ticks).plat = s.plat := (congrArg State.plat hclocks :)
  rw [← hmem] at hm
  rw [← hmem, ← hplat]
  exact State.byte_externalStores (s := { s.timerClocks ev.ticks with env := rest }) hm ev.stores a

/-- LLbit is 1 when it was and no store of the event hit the line (R293). -/
theorem State.llbit_afterStores (s : State) (ev : EnvEvent) (rest : List EnvEvent) :
    (s.afterStores ev rest).llbit = true ↔ s.llbit = true ∧ ¬ s.hitsLine ev.stores := by
  have hclocks := s.timerClocks_frame ev.ticks
  have hll : (s.timerClocks ev.ticks).llbit = s.llbit := (congrArg State.llbit hclocks :)
  have hplat : (s.timerClocks ev.ticks).plat = s.plat := (congrArg State.plat hclocks :)
  have haddr : (s.timerClocks ev.ticks).llAddr = s.llAddr := (congrArg State.llAddr hclocks :)
  rw [State.hitsLine, ← hll, ← hplat, ← haddr]
  exact State.llbit_externalStores { s.timerClocks ev.ticks with env := rest } ev.stores

/-- An event that is no reset lets its clocks pass, stores, and sets the counter, the lines and LLbit (R100, R293, R315). -/
theorem State.input_of_running {s : State} {ev : EnvEvent} {rest : List EnvEvent} (h : s.env = ev :: rest)
    (hreset : ev.reset = false) :
    s.input = { s.afterStores ev rest with
      stableCounter := (s.afterStores ev rest).stableCounter + BitVec.ofNat 64 ev.ticks
      hwi := ev.hwi
      ipi := ev.ipi
      llbit := (s.afterStores ev rest).llbit && !ev.clearLL } := by
  rw [State.input_of_event h, State.afterStores, ← State.timerClocks_withEnv]
  simp only [State.applyEvent, hreset, Bool.false_eq_true, if_false]

/-- A reset comes first, and then the event happens to the machine right after it (R571). -/
theorem State.input_of_reset {s : State} {ev : EnvEvent} {rest : List EnvEvent} (h : s.env = ev :: rest)
    (hreset : ev.reset = true) :
    s.input = { s.afterReset with env := { ev with reset := false } :: rest }.input := by
  rw [State.input_of_event h, State.input_of_event rfl]
  simp only [State.applyEvent, hreset, if_true, Bool.false_eq_true, if_false]
  rfl

/-- Settles O59: the clocks by the cases of one clock, an event by what its clocks and then its stores do. -/
theorem countingClocksAndInputEvents : Obligations.CountingClocksAndInputEvents := by
  intro s
  refine ⟨fun k => s.timerClocks_eq_iterate k, State.timerClock_of_stopped, fun h ht => ?pos, fun h ht => ?zero,
    fun ev rest henv => ⟨State.input_of_reset henv, fun hreset => ?event⟩⟩
  case pos => rw [State.timerClock_of_pos h ht, ← toNat_sub_one ht, BitVec.ofNat_toNat, BitVec.setWidth_eq]
  case zero =>
    cases hp : s.timerPeriodic with
    | true =>
      rw [State.timerClock_of_periodic h ht hp, ← timerInit_eq]
      exact ⟨rfl, fun _ => ⟨rfl, h⟩, fun hp' => absurd (hp.symm.trans hp') (by decide)⟩
    | false =>
      rw [State.timerClock_of_oneShot h ht hp]
      exact ⟨rfl, fun hp' => absurd (hp.symm.trans hp') (by decide), fun _ => ⟨ht, rfl⟩⟩
  case event =>
    obtain ⟨htimer, hrunning, hcsr⟩ := s.afterStores_timer ev rest
    obtain ⟨henv', hframe⟩ := s.afterStores_frame ev rest
    have hll := s.llbit_afterStores ev rest
    have hcounter : (s.afterStores ev rest).stableCounter = s.stableCounter := (congrArg State.stableCounter hframe :)
    rw [State.input_of_running henv hreset]
    refine ⟨henv', ?counter, rfl, rfl, htimer, hrunning, hcsr, fun hline => ?line, fun hclear => ?spurious,
      fun hline hclear => ?kept, fun hm a => State.byte_afterStores hm ev rest a, ?frame⟩
    case counter =>
      show (s.afterStores ev rest).stableCounter + BitVec.ofNat 64 ev.ticks = _
      rw [hcounter, BitVec.ofNat_add, BitVec.ofNat_toNat, BitVec.setWidth_eq]
    case line =>
      have hclear : (s.afterStores ev rest).llbit = false := eq_false_of_ne_true fun h => (hll.mp h).2 hline
      show ((s.afterStores ev rest).llbit && !ev.clearLL) = false
      rw [hclear, Bool.false_and]
    case spurious =>
      show ((s.afterStores ev rest).llbit && !ev.clearLL) = false
      rw [hclear, Bool.not_true, Bool.and_false]
    case kept =>
      have hsame : (s.afterStores ev rest).llbit = s.llbit := Bool.eq_iff_iff.mpr (hll.trans (and_iff_left hline))
      show ((s.afterStores ev rest).llbit && !ev.clearLL) = s.llbit
      rw [hsame, hclear, Bool.not_false, Bool.and_true]
    case frame =>
      exact (congrArg (fun u : State => { u with stableCounter := s.stableCounter, hwi := s.hwi, ipi := s.ipi }) hframe :)

end Sys2Proof.Machine
